-- ==== Sys2Proof/Word.lean ====
section
/-! DEFINITION. The two widths of the machine: bytes and 16-bit addresses (`00_scope.md` R2). -/

namespace Sys2Proof

/-- A byte: the smallest addressable unit and the width of A, X, Y and S (R2, R10 to R13). -/
abbrev Byte := BitVec 8

/-- A 16-bit address, the width of PC (R2, R14). -/
abbrev Word := BitVec 16

end Sys2Proof
end

