-- ==== Sys2Proof/Machine/Bytes.lean ====
section
/-! DEFINITION. Bytes and words: the notation of `00_scope.md` R6. -/

namespace Sys2Proof.Machine

/-- `lo(w)`: bits 7 to 0 (R6). -/
def loByte (w : Word) : Byte := w.setWidth 8

/-- `hi(w)`: bits 15 to 8 (R6). -/
def hiByte (w : Word) : Byte := w.extractLsb' 8 8

/-- The 16-bit value of a high and a low byte, `hi * 256 + lo` (R6). -/
def joinBytes (hi lo : Byte) : Word := hi ++ lo

/-- `zext_16(v)` (R6). -/
def zext16 (v : Byte) : Word := v.setWidth 16

/-- `sext_16(v)`: the byte read as two's complement (R6). -/
def sext16 (v : Byte) : Word := v.signExtend 16

end Sys2Proof.Machine
end

