-- ==== Sys2Proof/Machine/Memory.lean ====
section
/-! DEFINITION. The one address space of 65536 bytes (`20_memory.md` R40), as a list of (address, byte) cells in
one canonical form: addresses strictly rising and below 65536, and no cell holding what an unlisted address
reads as. -/

namespace Sys2Proof.Machine

/-- Memory: the cells that differ from the unlisted byte. -/
abbrev Memory := List Host.Cell

/-- What a byte that no cell lists reads as. DESIGN CHOICE, unsafe (log 2): the spec says "any value" (R34), so
only statements that start from `State.reset` rest on it; a statement over every state ranges over every content
of the memory. -/
def Memory.unlisted : Byte := 0x00

/-- Memory with nothing listed. -/
def Memory.blank : Memory := []

/-- The byte memory holds at an address (R45). -/
def Memory.read (m : Memory) (addr : Word) : Byte :=
  match m.find? (fun c => c.1 == addr.toNat) with
  | some c => c.2
  | none => Memory.unlisted

/-- Puts a cell before the first cell of a higher address. -/
def Memory.insertCell (c : Host.Cell) : Memory → Memory
  | [] => [c]
  | d :: m => if c.1 < d.1 then c :: d :: m else d :: Memory.insertCell c m

/-- Takes out every cell of an address. -/
def Memory.erase (m : Memory) (addr : Word) : Memory := m.filter (fun c => c.1 != addr.toNat)

/-- Memory with a byte changed (R46), in the canonical form. -/
def Memory.write (m : Memory) (addr : Word) (v : Byte) : Memory :=
  if v = Memory.unlisted then m.erase addr else Memory.insertCell (addr.toNat, v) (m.erase addr)

/-- The canonical form, checked from an address bound upwards. -/
def Memory.wfFrom (low : Nat) : Memory → Bool
  | [] => true
  | c :: m => decide (low ≤ c.1) && decide (c.1 < 65536) && decide (c.2 ≠ Memory.unlisted) && Memory.wfFrom (c.1 + 1) m

/-- The canonical form: addresses strictly rising and below 65536 (R40), no cell equal to the unlisted byte. -/
def Memory.wf (m : Memory) : Bool := Memory.wfFrom 0 m

/-- The word two bytes hold, low byte first, the high byte's address modulo 65536 (R48). -/
def Memory.read16 (m : Memory) (addr : Word) : Word := joinBytes (m.read (addr + 1)) (m.read addr)

end Sys2Proof.Machine
end

