-- ==== Sys2Proof/Config.lean ====
section
/-! DEFINITION. What an implementation fixes: the named parameters of `00_scope.md` R3, and the two sources of values
that the spec leaves open. The parameter VALUES stand in `Sys2Proof/Machine/Params.lean`. -/

namespace Sys2Proof

/-- `P_LAYOUT` (R3, R26): the bit of the status byte that each flag has. The eighth bit is the one no flag has. -/
structure PLayout where
  n : Fin 8
  v : Fin 8
  b : Fin 8
  d : Fin 8
  i : Fin 8
  z : Fin 8
  c : Fin 8
deriving DecidableEq, Repr

/-- `JMP_IND_WRAP` (R3, R182): where JMP (Indirect) reads the high byte when the pointer's low byte is `0xFF`. -/
inductive JmpIndWrap where
  /-- `PAGE`: the same page, the low byte wraps to `0x00`. -/
  | page
  /-- `CARRY`: the next address. -/
  | carry
deriving DecidableEq, Repr

/-- `BRK_PUSHED_B` and `PHP_PUSHED_B` (R3, R215, R127): bit 4 of the status byte an instruction pushes. -/
inductive PushedB where
  /-- `LIVE`: the B flag as it is before the instruction. -/
  | live
  /-- `ONE`: always 1. -/
  | one
deriving DecidableEq, Repr

/-- `DECIMAL_MODE` (R3, R145): what ADC and SBC do when D = 1. -/
inductive DecimalMode where
  /-- `REFUSE`: the step is given no meaning. -/
  | refuse
  /-- `BINARY`: R146 and R148 apply regardless of D. -/
  | binary
  /-- `BCD`: a decimal result by an algorithm the spec does not give. The instruction runs and what it computes
  is a free value (log 4, log 5). -/
  | bcd
deriving DecidableEq, Repr

/-- `ILLEGAL_OPCODE` (R3, R95): what a step at one of the 105 unlisted opcode bytes does. -/
inductive IllegalOpcode where
  /-- `REFUSE`: the step is given no meaning. -/
  | refuse
  /-- The NMOS column: an operation of the silicon of which the spec says that none of it is specified (log 19). -/
  | undocumented
deriving DecidableEq, Repr

/-- What is behind an address (R44): the read function and the write function the platform supplies there. -/
inductive RegionKind where
  /-- Read/write memory: the default (R45, R46). -/
  | ram
  /-- Memory that a write does not change (log 15). -/
  | rom
  /-- A device, or nothing at all: what a read gives is the platform's, and each access is an event (log 26). -/
  | device
deriving DecidableEq, Repr

/-- A range of addresses, both ends included, and what is behind it. -/
structure Region where
  first : Word
  last : Word
  kind : RegionKind
deriving DecidableEq, Repr

/-- `MEM_MAP` (R3, R44). The first region that holds an address decides; an address in no region is RAM, so the
empty map is the spec's default. -/
abbrev MemMap := List Region

/-- An access to a device address, as the platform sees it (R54, R55). -/
inductive BusAccess where
  | read (addr : Word)
  | write (addr : Word) (v : Byte)
deriving DecidableEq, Repr

/-- `HALT_CONDITION` (R3, R295): a convention by which a harness ends a run. No step depends on it. -/
inductive HaltCondition where
  /-- PC is at a JMP Absolute to its own address. -/
  | selfJump
  /-- PC is at a branch to itself that is taken. -/
  | selfBranch
  /-- PC is at a designated address. -/
  | pcAt (addr : Word)
  /-- The next instruction is BRK. -/
  | brk
deriving DecidableEq, Repr

/-- The implementation parameters of R3, but for the lines, which are host inputs of State (R33), and RESET_STATE,
which is `State.reset` (log 1). -/
structure Params where
  /-- `P_LAYOUT`. -/
  pLayout : PLayout
  /-- `P_BIT5`: the bit of a pushed status byte that no flag has. -/
  pBit5 : Bool
  /-- `JMP_IND_WRAP`. -/
  jmpIndWrap : JmpIndWrap
  /-- `BRK_PUSH_OFFSET`: BRK at address a pushes a plus this. -/
  brkPushOffset : Nat
  /-- `BRK_PUSHED_B`. -/
  brkPushedB : PushedB
  /-- `BRK_SETS_I`. -/
  brkSetsI : Bool
  /-- `PHP_PUSHED_B`. -/
  phpPushedB : PushedB
  /-- `DECIMAL_MODE`. -/
  decimalMode : DecimalMode
  /-- `ILLEGAL_OPCODE`. -/
  illegalOpcode : IllegalOpcode
  /-- `MEM_MAP`. -/
  memMap : MemMap
  /-- `HALT_CONDITION`: any one of these ends a run. -/
  haltConditions : List HaltCondition
deriving DecidableEq, Repr

/-- The free values: nothing is known of them. The n-th draw is this constant at n, and `State.draws` counts the
draws (log 5). Bits 7 to 0 stand for an open byte, bits 8 to 11 for open flags. -/
opaque Config.freeValue : Nat → BitVec 12

/-- What a read of a device address gives, the platform's read function (R44): nothing is known of it, but that it
answers from the address and from all device accesses before, the latest first (log 26). -/
opaque Config.deviceRead : Word → List BusAccess → Byte

end Sys2Proof
end

