-- ==== Sys2Proof/Machine/Params.lean ====
section
/-! DEFINITION. The two columns of `00_scope.md` R3, the setting the machine has after reset, and what a layout of the
status byte and a memory map say. -/

namespace Sys2Proof

/-- The layout of R26, the default of P_LAYOUT: N V - B D I Z C, from bit 7 down. -/
def PLayout.standard : PLayout := { n := 7, v := 6, b := 4, d := 3, i := 2, z := 1, c := 0 }

/-- The seven bits that hold flags. -/
def PLayout.positions (l : PLayout) : List (Fin 8) := [l.n, l.v, l.b, l.d, l.i, l.z, l.c]

/-- No two flags share a bit. -/
def PLayout.distinct (l : PLayout) : Bool := decide l.positions.Nodup

/-- The region holds the address. -/
def Region.holds (r : Region) (addr : Word) : Bool :=
  decide (r.first.toNat ≤ addr.toNat) && decide (addr.toNat ≤ r.last.toNat)

/-- What is behind an address (R44). -/
def MemMap.kindAt (m : MemMap) (addr : Word) : RegionKind :=
  match m.find? (fun r => r.holds addr) with
  | some r => r.kind
  | none => .ram

/-- The address of an access. -/
def BusAccess.addr : BusAccess → Word
  | .read a => a
  | .write a _ => a

end Sys2Proof

namespace Sys2Proof.Machine

/-- The default column of R3. HALT_CONDITION is open there: the convention of the spec's own programs (R295, log 22). -/
def specParams : Params where
  pLayout := PLayout.standard
  pBit5 := true
  jmpIndWrap := .page
  brkPushOffset := 2
  brkPushedB := .live
  brkSetsI := false
  phpPushedB := .live
  decimalMode := .refuse
  illegalOpcode := .refuse
  memMap := []
  haltConditions := [.selfJump]

/-- The NMOS column of R3. -/
def nmosParams : Params where
  pLayout := PLayout.standard
  pBit5 := true
  jmpIndWrap := .page
  brkPushOffset := 2
  brkPushedB := .one
  brkSetsI := true
  phpPushedB := .one
  decimalMode := .bcd
  illegalOpcode := .undocumented
  memMap := []
  haltConditions := []

/-- The setting after reset: the default column, with ADC and SBC run in decimal mode on free values instead of
refused. DESIGN CHOICE, safe (log 4). -/
def resetParams : Params := { specParams with decimalMode := .bcd }

end Sys2Proof.Machine
end

