-- ==== Sys2Proof/Machine/State.lean ====
section
/-! DEFINITION. The state of the machine (`10_state.md` R32), the host's input lines (R33), and the model's own
fields; the reasons a step can stop; the state after reset. -/

namespace Sys2Proof.Machine

/-- The state: the tuple of R32, the levels the host drives (R33), the implementation parameters (R3), and a
record of device accesses, and two counters of the model's own. -/
structure State where
  /-- A, the accumulator (R10). -/
  a : Byte
  /-- X, the X index register (R11). -/
  x : Byte
  /-- Y, the Y index register (R12). -/
  y : Byte
  /-- S, the stack register: the low byte of the next free address of page 1 (R13, R16). -/
  sp : Byte
  /-- PC: at the start of a step, the address of the instruction's first byte (R14). -/
  pc : Word
  /-- C, the carry flag (R21). -/
  flagC : Bool
  /-- Z, the zero flag (R22). -/
  flagZ : Bool
  /-- I, the interrupt disable flag (R28). -/
  flagI : Bool
  /-- D, the decimal mode flag (R29). -/
  flagD : Bool
  /-- B, the break flag, a flag like the others in this spec (R30). -/
  flagB : Bool
  /-- V, the overflow flag (R25). -/
  flagV : Bool
  /-- N, the negative flag (R23). -/
  flagN : Bool
  /-- The 65536 bytes of memory (R40): what RAM and ROM hold. -/
  mem : Memory
  /-- The accesses to device addresses so far, the latest first (R54, R55). The model's own field: what the platform's
  devices have seen (log 26). -/
  bus : List BusAccess
  /-- IRQ_LINE asserted: a level the host drives (R235). -/
  irqLine : Bool
  /-- NMI_LINE asserted: kept to see its edge (R240). -/
  nmiLine : Bool
  /-- At least one NMI edge waits to be serviced (R240): one bit, so further edges merge into it, DESIGN CHOICE
  (log 27). -/
  nmiPending : Bool
  /-- RESET_LINE asserted: a level the host drives (R274). -/
  resetLine : Bool
  /-- The implementation parameters (R3). The model's own field: no step changes it (log 6). -/
  params : Params
  /-- Clock cycles so far: a ghost count, not hardware state (R290; log 21). -/
  cycles : Nat
  /-- How many free values have been taken. The model's own field (log 5). -/
  draws : Nat
deriving DecidableEq, Repr

/-- The machine has no fault of any kind (`60_exceptions.md` R230), so there is no reason for one: this type is
empty and no step can answer `.fault`. Safe (log 25). -/
inductive Fault
deriving DecidableEq, Repr

/-- Why the model gives a step no meaning. A refusal is not something the chip does (R8, R230). -/
inductive Refusal where
  /-- Raised by exec's arm of an instruction that has no meaning yet, with its mnemonic. Safe. -/
  | notModelled (mnemonic : String)
  /-- Raised by the step when the byte at PC is one of the 105 the spec lists no instruction for (R95, log 19) and the
  parameter ILLEGAL_OPCODE is REFUSE. Safe: the spec gives such a byte no effect. -/
  | unlistedOpcode (op : Byte)
  /-- Raised by the step at such a byte when ILLEGAL_OPCODE is at its NMOS setting: the spec says that the silicon
  executes an operation there and that none of it is specified (R95, log 19). Safe. -/
  | undocumentedOperation (op : Byte)
  /-- Raised by ADC and SBC when D = 1 and the parameter DECIMAL_MODE is REFUSE (R145). Safe: the machine after
  reset has another setting (log 4). -/
  | decimalModeNotSpecified
deriving DecidableEq, Repr

/-- What an instruction's meaning and a step answer. -/
abbrev Result := Host.Outcome State Fault Refusal

/-- The machine right after power-on reset (`10_state.md` R34, `70_reset_and_hazards.md` R271): I = 1, PC from the
vector at `0xFFFC`, nothing pending and no line asserted. Every other value is "any value" in the spec and zero
here: DESIGN CHOICE, unsafe (log 1, log 2). -/
def State.reset : State where
  a := 0x00
  x := 0x00
  y := 0x00
  sp := 0x00
  pc := Memory.blank.read16 0xFFFC
  flagC := false
  flagZ := false
  flagI := true
  flagD := false
  flagB := false
  flagV := false
  flagN := false
  mem := Memory.blank
  bus := []
  irqLine := false
  nmiLine := false
  nmiPending := false
  resetLine := false
  params := resetParams
  cycles := 0
  draws := 0

end Sys2Proof.Machine
end

