-- ==== Sys2Proof/Machine/Ops.lean ====
section
/-! DEFINITION. The named operations over registers and memory: access through the memory map, the stack, the status
byte, taking an exception and returning from one, reset, and the host's lines. -/

namespace Sys2Proof.Machine

/-- What is behind an address, by the parameter MEM_MAP (R44). -/
def State.kindAt (s : State) (addr : Word) : RegionKind := s.params.memMap.kindAt addr

/-- The byte `MemRead(addr, 1)` gives (R45, R44): what memory holds, or at a device address what the platform
answers. No read can fault. -/
def State.read (s : State) (addr : Word) : Byte :=
  if s.kindAt addr = .device then Config.deviceRead addr s.bus else s.mem.read addr

/-- The state after `MemRead(addr, 1)`: a read of a device address is an event, any other read changes nothing
(R54). -/
def State.touch (s : State) (addr : Word) : State :=
  { s with bus := if s.kindAt addr = .device then .read addr :: s.bus else s.bus }

/-- `MemRead(addr, 1)` (R45): the byte, and the state after the access. -/
def State.load (s : State) (addr : Word) : Byte × State := (s.read addr, s.touch addr)

/-- `MemWrite(addr, 1, v)` (R46, R44): changes the byte of RAM; ROM keeps its byte; at a device address the write is
an event. No write can fault. -/
def State.store (s : State) (addr : Word) (v : Byte) : State :=
  { s with
    mem := if s.kindAt addr = .ram then s.mem.write addr v else s.mem
    bus := if s.kindAt addr = .device then .write addr v :: s.bus else s.bus }

/-- `MemRead16(addr)` (R48): two loads, low byte first. -/
def State.load16 (s : State) (addr : Word) : Word × State :=
  let lo := s.load addr
  let hi := lo.2.load (addr + 1)
  (joinBytes hi.1 lo.1, hi.2)

/-- `MemRead16zp(zp)` (R49): two loads, low byte first, both bytes of the pointer from page zero. -/
def State.pointer (s : State) (zp : Byte) : Word × State :=
  let lo := s.load (zext16 zp)
  let hi := lo.2.load (zext16 (zp + 1))
  (joinBytes hi.1 lo.1, hi.2)

/-- The sequential end of an instruction of `len` bytes: `PC <- u16(a + len)` (R9, R14, R15). -/
def State.advance (s : State) (len : Word) : State := { s with pc := s.pc + len }

/-- `SetZN(v)` (R24). -/
def State.setZN (s : State) (v : Byte) : State := { s with flagZ := v == 0, flagN := v.msb }

/-- The address S designates, in page 1 (R16). -/
def stackAddr (sp : Byte) : Word := joinBytes 0x01 sp

/-- `Push(v)` (R17): store at the free byte, then count down modulo 256 (R19). -/
def State.push (s : State) (v : Byte) : State := { s.store (stackAddr s.sp) v with sp := s.sp - 1 }

/-- `Pull()` (R18): count up modulo 256 (R19), then load. Nothing in memory is erased. -/
def State.pull (s : State) : Byte × State := { s with sp := s.sp + 1 }.load (stackAddr (s.sp + 1))

/-- Bit `k` of the status byte `PackP(b)` builds (R26): the flag that P_LAYOUT puts there, else P_BIT5. -/
def State.statusBit (s : State) (b : Bool) (k : Fin 8) : Bool :=
  let l := s.params.pLayout
  if k = l.n then s.flagN
  else if k = l.v then s.flagV
  else if k = l.b then b
  else if k = l.d then s.flagD
  else if k = l.i then s.flagI
  else if k = l.z then s.flagZ
  else if k = l.c then s.flagC
  else s.params.pBit5

/-- `PackP(b)` (R26): under the default layout N V, the bit of P_BIT5, b, D I Z C, from bit 7 down. -/
def State.packP (s : State) (b : Bool) : Byte :=
  BitVec.ofBool (s.statusBit b 7) ++ BitVec.ofBool (s.statusBit b 6) ++ BitVec.ofBool (s.statusBit b 5) ++
    BitVec.ofBool (s.statusBit b 4) ++ BitVec.ofBool (s.statusBit b 3) ++ BitVec.ofBool (s.statusBit b 2) ++
    BitVec.ofBool (s.statusBit b 1) ++ BitVec.ofBool (s.statusBit b 0)

/-- `UnpackP(v)` (R27): each flag from the bit P_LAYOUT gives it; the eighth bit is ignored. -/
def State.unpackP (s : State) (v : Byte) : State :=
  { s with
    flagN := v.getLsbD s.params.pLayout.n
    flagV := v.getLsbD s.params.pLayout.v
    flagB := v.getLsbD s.params.pLayout.b
    flagD := v.getLsbD s.params.pLayout.d
    flagI := v.getLsbD s.params.pLayout.i
    flagZ := v.getLsbD s.params.pLayout.z
    flagC := v.getLsbD s.params.pLayout.c }

/-- The B bit of a status byte that PHP or BRK pushes (R127, R215). -/
def State.pushedB (s : State) (p : PushedB) : Bool :=
  match p with
  | .live => s.flagB
  | .one => true

/-- The IRQ/BRK vector (R43). -/
def irqVector : Word := 0xFFFE

/-- The NMI vector, the spec's general knowledge (R43, R240; log 18). -/
def nmiVector : Word := 0xFFFA

/-- The reset vector (R43). -/
def resetVector : Word := 0xFFFC

/-- Loads PC from a vector (R43, R48). -/
def State.enterVector (s : State) (vector : Word) : State :=
  let v := s.load16 vector
  { v.2 with pc := v.1 }

/-- TAKING AN EXCEPTION, what BRK and a hardware interrupt share (R242): push the return address, high byte first,
push the status with `b` as its B bit, load PC from the vector. -/
def State.enterTrap (s : State) (ret : Word) (b : Bool) (vector : Word) : State :=
  (((s.push (hiByte ret)).push (loByte ret)).push (s.packP b)).enterVector vector

/-- RETURNING FROM AN EXCEPTION (R217, R243): pull the status, then PC, low byte first; nothing is added. -/
def State.leaveTrap (s : State) : State :=
  let p := s.pull
  let lo := (p.2.unpackP p.1).pull
  let hi := lo.2.pull
  { hi.2 with pc := joinBytes hi.1 lo.1 }

/-- The entry sequence of a hardware interrupt (R237): the address of the next instruction and the status
with the B bit 0 are saved and I is set. Seven cycles, timing only. -/
def State.enterInterrupt (s : State) (vector : Word) : State :=
  { s.enterTrap s.pc false vector with flagI := true, cycles := s.cycles + 7 }

/-- The reset sequence (R271), which a run-time reset applies to the current state (R274): nothing is written, a
latched NMI is discarded. -/
def State.resetSequence (s : State) : State :=
  { s.enterVector resetVector with flagI := true, nmiPending := false }

/-- What the machine does at an instruction boundary instead of fetching (R236, R240, R241, R274): reset first,
then NMI, then IRQ if I = 0. -/
def State.boundaryEvent (s : State) : Option State :=
  if s.resetLine then some s.resetSequence
  else if s.nmiPending then some ({ s with nmiPending := false }.enterInterrupt nmiVector)
  else if s.irqLine && !s.flagI then some (s.enterInterrupt irqVector)
  else none

/-- The host drives its three lines between steps (R235, R240, R274): IRQ and RESET are levels, and NMI is latched
when its line becomes asserted. The latch is one bit, so edges that come before it is served merge into one entry:
DESIGN CHOICE (log 27). Not part of a step. -/
def State.driveLines (s : State) (irq nmi reset : Bool) : State :=
  { s with irqLine := irq, nmiLine := nmi, nmiPending := s.nmiPending || (nmi && !s.nmiLine), resetLine := reset }

/-- The harness puts a byte into memory before launch, whatever is behind the address (R272, R273). Not part of a
step. -/
def State.poke (s : State) (addr : Word) (v : Byte) : State := { s with mem := s.mem.write addr v }

end Sys2Proof.Machine
end

