-- ==== Sys2Proof/Machine/Flags.lean ====
section
/-! DEFINITION. The arithmetic and flag computations that instructions share (`43_arithmetic.md` R145 to R149,
`45_shifts.md` R170 to R174). -/

namespace Sys2Proof.Machine

/-- What an 8-bit addition or subtraction gives: the result byte, the carry and the overflow. -/
structure AddOut where
  r : Byte
  carry : Bool
  overflow : Bool
deriving DecidableEq, Repr

/-- `AddCore(a8, m8, c1)` (R147). -/
def addCore (a8 m8 : Byte) (c : Bool) : AddOut :=
  let sum := a8.toNat + m8.toNat + c.toNat
  let r := BitVec.ofNat 8 sum
  { r := r, carry := decide (256 ≤ sum), overflow := ((a8 ^^^ r) &&& (m8 ^^^ r) &&& 0x80) != 0 }

/-- The subtraction of SBC (R148): the carry is an inverted borrow. -/
def subCore (a8 m8 : Byte) (c : Bool) : AddOut :=
  let diff : Int := (a8.toNat : Int) - m8.toNat - (1 - c.toNat)
  let r := BitVec.ofInt 8 diff
  { r := r, carry := decide (0 ≤ diff), overflow := ((a8 ^^^ m8) &&& (a8 ^^^ r) &&& 0x80) != 0 }

/-- Writes the outcome of an addition or subtraction to A, C, V, Z and N (R146, R148). -/
def State.setSum (s : State) (o : AddOut) : State :=
  { s with a := o.r, flagC := o.carry, flagV := o.overflow }.setZN o.r

/-- ADC or SBC in decimal mode under DECIMAL_MODE = BCD (R145): the spec gives no result and no flags, so A, C, V, Z
and N are free values (log 4, log 5). I, D and B are not affected. -/
def State.setUnstatedSum (s : State) : State :=
  let v := Config.freeValue s.draws
  { s with
    a := v.setWidth 8
    flagC := v.getLsbD 8
    flagV := v.getLsbD 9
    flagZ := v.getLsbD 10
    flagN := v.getLsbD 11
    draws := s.draws + 1 }

/-- The decimal-mode gate of ADC and SBC (R145): `o` is the binary outcome of R146 or R148, `len` the
instruction's length. -/
def decimalGate (o : AddOut) (len : Word) (s : State) : Result :=
  if s.flagD then
    match s.params.decimalMode with
    | .refuse => .refused .decimalModeNotSpecified
    | .binary => .next ((s.setSum o).advance len)
    | .bcd => .next (s.setUnstatedSum.advance len)
  else .next ((s.setSum o).advance len)

/-- `Compare(r8, m8)` (R149): unsigned; V and D play no part. -/
def State.compare (s : State) (r8 m8 : Byte) : State :=
  { s with flagC := decide (m8.toNat ≤ r8.toNat), flagZ := r8 == m8, flagN := (r8 - m8).msb }

/-- What a shift or rotate gives: the result byte and the new carry. -/
structure ShiftOut where
  r : Byte
  carry : Bool
deriving DecidableEq, Repr

/-- ASL (R170): bit 0 becomes 0, the old bit 7 goes to the carry. -/
def aslCore (v : Byte) : ShiftOut := { r := v <<< 1, carry := v.getLsbD 7 }

/-- LSR (R171): bit 7 becomes 0, the old bit 0 goes to the carry. -/
def lsrCore (v : Byte) : ShiftOut := { r := v >>> 1, carry := v.getLsbD 0 }

/-- ROL (R172): the old carry fills bit 0, the old bit 7 goes to the carry. -/
def rolCore (v : Byte) (c : Bool) : ShiftOut :=
  { r := (v <<< 1) ||| (if c then 0x01 else 0x00), carry := v.getLsbD 7 }

/-- ROR (R173): the old carry fills bit 7, the old bit 0 goes to the carry. -/
def rorCore (v : Byte) (c : Bool) : ShiftOut :=
  { r := (v >>> 1) ||| (if c then 0x80 else 0x00), carry := v.getLsbD 0 }

end Sys2Proof.Machine
end

