-- ==== Sys2Proof/Machine/Operands.lean ====
section
/-! DEFINITION. The addressing modes of `30_encoding.md` R72 to R87: the effective address or target each mode
gives. Immediate and Absolute need no function: M is the operand byte (R76), EA the operand word (R81). A mode that
loads a pointer also gives the state after those loads (R55). -/

namespace Sys2Proof.Machine

/-- Zero Page (R77). -/
def eaZp (zp : Byte) : Word := zext16 zp

/-- Zero Page,X (R78): the sum wraps inside page zero. -/
def eaZpx (zp : Byte) (s : State) : Word := zext16 (zp + s.x)

/-- Zero Page,Y (R79): the sum wraps inside page zero (D8; log 14). -/
def eaZpy (zp : Byte) (s : State) : Word := zext16 (zp + s.y)

/-- Absolute,X (R82): X is unsigned and the sum is modulo 65536. -/
def eaAbx (addr : Word) (s : State) : Word := addr + zext16 s.x

/-- Absolute,Y (R83). -/
def eaAby (addr : Word) (s : State) : Word := addr + zext16 s.y

/-- (Indirect,X) (R85): the pointer's place wraps inside page zero. -/
def eaIzx (zp : Byte) (s : State) : Word × State := s.pointer (zp + s.x)

/-- (Indirect),Y (R86): Y is added to the pointer, modulo 65536. -/
def eaIzy (zp : Byte) (s : State) : Word × State :=
  let p := s.pointer zp
  (p.1 + zext16 s.y, p.2)

/-- The operand byte of a mode that loads a pointer: the load of the effective address comes after the pointer's
(R52, R55). -/
def loadAt (p : Word × State) : Byte × State := p.2.load p.1

/-- Relative (R80): the offset is signed and counted from the byte after the branch. -/
def branchTarget (off : Byte) (s : State) : Word := s.pc + 2 + sext16 off

/-- Where JMP (Indirect) reads the target's high byte (R84, R182). -/
def indirectHighAddr (ptr : Word) (p : Params) : Word :=
  match p.jmpIndWrap with
  | .page => joinBytes (hiByte ptr) (loByte ptr + 1)
  | .carry => ptr + 1

/-- Indirect (R84, R182): the word at the pointer, low byte first. -/
def indirectTarget (ptr : Word) (s : State) : Word × State :=
  let lo := s.load ptr
  let hi := lo.2.load (indirectHighAddr ptr s.params)
  (joinBytes hi.1 lo.1, hi.2)

end Sys2Proof.Machine
end

