-- ==== Sys2Proof/Syntax.lean ====
section
/-! DEFINITION. The instructions: one constructor per row of `spec/opcode_table.json`, that is per opcode byte of
`30_encoding.md` R93; their mnemonics and modes; and an instruction as a programmer writes it. -/

namespace Sys2Proof

/-- The "complete set of 56 instructions" (R1). -/
inductive Mnemonic where
  | lda | ldx | ldy | sta | stx | sty | tax | tay | txa | tya | tsx | txs | pha | php | pla | plp | and | eor
  | ora | bit | adc | sbc | cmp | cpx | cpy | inc | inx | iny | dec | dex | dey | asl | lsr | rol | ror | jmp
  | jsr | rts | bcc | bcs | beq | bmi | bne | bpl | bvc | bvs | clc | cld | cli | clv | sec | sed | sei | brk
  | nop | rti
deriving DecidableEq, Repr

/-- The thirteen addressing modes (R72). -/
inductive Mode where
  /-- Implied (R74). -/
  | imp
  /-- Accumulator (R75). -/
  | acc
  /-- Immediate (R76). -/
  | imm
  /-- Zero Page (R77). -/
  | zp
  /-- Zero Page,X (R78). -/
  | zpx
  /-- Zero Page,Y (R79). -/
  | zpy
  /-- Relative (R80). -/
  | rel
  /-- Absolute (R81). -/
  | abs
  /-- Absolute,X (R82). -/
  | abx
  /-- Absolute,Y (R83). -/
  | aby
  /-- Indirect (R84). -/
  | ind
  /-- (Indirect,X) (R85). -/
  | izx
  /-- (Indirect),Y (R86). -/
  | izy
deriving DecidableEq, Repr

/-- The length in bytes of an instruction of a mode (R70, R72). -/
def Mode.length : Mode → Nat
  | .imp | .acc => 1
  | .imm | .zp | .zpx | .zpy | .rel | .izx | .izy => 2
  | .abs | .abx | .aby | .ind => 3

/-- An instruction: its operand is the byte or the 16-bit value that follows the opcode (R70). -/
inductive Instr where
  /-- LDA #imm: `0xA9` (R110, R76). -/
  | ldaImm (imm : Byte)
  /-- LDA zp: `0xA5` (R110, R77). -/
  | ldaZp (zp : Byte)
  /-- LDA zp,X: `0xB5` (R110, R78). -/
  | ldaZpx (zp : Byte)
  /-- LDA addr: `0xAD` (R110, R81). -/
  | ldaAbs (addr : Word)
  /-- LDA addr,X: `0xBD` (R110, R82). -/
  | ldaAbx (addr : Word)
  /-- LDA addr,Y: `0xB9` (R110, R83). -/
  | ldaAby (addr : Word)
  /-- LDA (zp,X): `0xA1` (R110, R85). -/
  | ldaIzx (zp : Byte)
  /-- LDA (zp),Y: `0xB1` (R110, R86). -/
  | ldaIzy (zp : Byte)
  /-- LDX #imm: `0xA2` (R111, R76). -/
  | ldxImm (imm : Byte)
  /-- LDX zp: `0xA6` (R111, R77). -/
  | ldxZp (zp : Byte)
  /-- LDX zp,Y: `0xB6` (R111, R79). -/
  | ldxZpy (zp : Byte)
  /-- LDX addr: `0xAE` (R111, R81). -/
  | ldxAbs (addr : Word)
  /-- LDX addr,Y: `0xBE` (R111, R83). -/
  | ldxAby (addr : Word)
  /-- LDY #imm: `0xA0` (R112, R76). -/
  | ldyImm (imm : Byte)
  /-- LDY zp: `0xA4` (R112, R77). -/
  | ldyZp (zp : Byte)
  /-- LDY zp,X: `0xB4` (R112, R78). -/
  | ldyZpx (zp : Byte)
  /-- LDY addr: `0xAC` (R112, R81). -/
  | ldyAbs (addr : Word)
  /-- LDY addr,X: `0xBC` (R112, R82). -/
  | ldyAbx (addr : Word)
  /-- STA zp: `0x85` (R113, R77). -/
  | staZp (zp : Byte)
  /-- STA zp,X: `0x95` (R113, R78). -/
  | staZpx (zp : Byte)
  /-- STA addr: `0x8D` (R113, R81). -/
  | staAbs (addr : Word)
  /-- STA addr,X: `0x9D` (R113, R82). -/
  | staAbx (addr : Word)
  /-- STA addr,Y: `0x99` (R113, R83). -/
  | staAby (addr : Word)
  /-- STA (zp,X): `0x81` (R113, R85). -/
  | staIzx (zp : Byte)
  /-- STA (zp),Y: `0x91` (R113, R86). -/
  | staIzy (zp : Byte)
  /-- STX zp: `0x86` (R114, R77). -/
  | stxZp (zp : Byte)
  /-- STX zp,Y: `0x96` (R114, R79). -/
  | stxZpy (zp : Byte)
  /-- STX addr: `0x8E` (R114, R81). -/
  | stxAbs (addr : Word)
  /-- STY zp: `0x84` (R115, R77). -/
  | styZp (zp : Byte)
  /-- STY zp,X: `0x94` (R115, R78). -/
  | styZpx (zp : Byte)
  /-- STY addr: `0x8C` (R115, R81). -/
  | styAbs (addr : Word)
  /-- TAX: `0xAA` (R120, R74). -/
  | tax
  /-- TAY: `0xA8` (R121, R74). -/
  | tay
  /-- TXA: `0x8A` (R122, R74). -/
  | txa
  /-- TYA: `0x98` (R123, R74). -/
  | tya
  /-- TSX: `0xBA` (R124, R74). -/
  | tsx
  /-- TXS: `0x9A` (R125, R74). -/
  | txs
  /-- PHA: `0x48` (R126, R74). -/
  | pha
  /-- PHP: `0x08` (R127, R74). -/
  | php
  /-- PLA: `0x68` (R128, R74). -/
  | pla
  /-- PLP: `0x28` (R129, R74). -/
  | plp
  /-- AND #imm: `0x29` (R135, R76). -/
  | andImm (imm : Byte)
  /-- AND zp: `0x25` (R135, R77). -/
  | andZp (zp : Byte)
  /-- AND zp,X: `0x35` (R135, R78). -/
  | andZpx (zp : Byte)
  /-- AND addr: `0x2D` (R135, R81). -/
  | andAbs (addr : Word)
  /-- AND addr,X: `0x3D` (R135, R82). -/
  | andAbx (addr : Word)
  /-- AND addr,Y: `0x39` (R135, R83). -/
  | andAby (addr : Word)
  /-- AND (zp,X): `0x21` (R135, R85). -/
  | andIzx (zp : Byte)
  /-- AND (zp),Y: `0x31` (R135, R86). -/
  | andIzy (zp : Byte)
  /-- EOR #imm: `0x49` (R136, R76). -/
  | eorImm (imm : Byte)
  /-- EOR zp: `0x45` (R136, R77). -/
  | eorZp (zp : Byte)
  /-- EOR zp,X: `0x55` (R136, R78). -/
  | eorZpx (zp : Byte)
  /-- EOR addr: `0x4D` (R136, R81). -/
  | eorAbs (addr : Word)
  /-- EOR addr,X: `0x5D` (R136, R82). -/
  | eorAbx (addr : Word)
  /-- EOR addr,Y: `0x59` (R136, R83). -/
  | eorAby (addr : Word)
  /-- EOR (zp,X): `0x41` (R136, R85). -/
  | eorIzx (zp : Byte)
  /-- EOR (zp),Y: `0x51` (R136, R86). -/
  | eorIzy (zp : Byte)
  /-- ORA #imm: `0x09` (R137, R76). -/
  | oraImm (imm : Byte)
  /-- ORA zp: `0x05` (R137, R77). -/
  | oraZp (zp : Byte)
  /-- ORA zp,X: `0x15` (R137, R78). -/
  | oraZpx (zp : Byte)
  /-- ORA addr: `0x0D` (R137, R81). -/
  | oraAbs (addr : Word)
  /-- ORA addr,X: `0x1D` (R137, R82). -/
  | oraAbx (addr : Word)
  /-- ORA addr,Y: `0x19` (R137, R83). -/
  | oraAby (addr : Word)
  /-- ORA (zp,X): `0x01` (R137, R85). -/
  | oraIzx (zp : Byte)
  /-- ORA (zp),Y: `0x11` (R137, R86). -/
  | oraIzy (zp : Byte)
  /-- BIT zp: `0x24` (R138, R77). -/
  | bitZp (zp : Byte)
  /-- BIT addr: `0x2C` (R138, R81). -/
  | bitAbs (addr : Word)
  /-- ADC #imm: `0x69` (R146, R76). -/
  | adcImm (imm : Byte)
  /-- ADC zp: `0x65` (R146, R77). -/
  | adcZp (zp : Byte)
  /-- ADC zp,X: `0x75` (R146, R78). -/
  | adcZpx (zp : Byte)
  /-- ADC addr: `0x6D` (R146, R81). -/
  | adcAbs (addr : Word)
  /-- ADC addr,X: `0x7D` (R146, R82). -/
  | adcAbx (addr : Word)
  /-- ADC addr,Y: `0x79` (R146, R83). -/
  | adcAby (addr : Word)
  /-- ADC (zp,X): `0x61` (R146, R85). -/
  | adcIzx (zp : Byte)
  /-- ADC (zp),Y: `0x71` (R146, R86). -/
  | adcIzy (zp : Byte)
  /-- SBC #imm: `0xE9` (R148, R76). -/
  | sbcImm (imm : Byte)
  /-- SBC zp: `0xE5` (R148, R77). -/
  | sbcZp (zp : Byte)
  /-- SBC zp,X: `0xF5` (R148, R78). -/
  | sbcZpx (zp : Byte)
  /-- SBC addr: `0xED` (R148, R81). -/
  | sbcAbs (addr : Word)
  /-- SBC addr,X: `0xFD` (R148, R82). -/
  | sbcAbx (addr : Word)
  /-- SBC addr,Y: `0xF9` (R148, R83). -/
  | sbcAby (addr : Word)
  /-- SBC (zp,X): `0xE1` (R148, R85). -/
  | sbcIzx (zp : Byte)
  /-- SBC (zp),Y: `0xF1` (R148, R86). -/
  | sbcIzy (zp : Byte)
  /-- CMP #imm: `0xC9` (R150, R76). -/
  | cmpImm (imm : Byte)
  /-- CMP zp: `0xC5` (R150, R77). -/
  | cmpZp (zp : Byte)
  /-- CMP zp,X: `0xD5` (R150, R78). -/
  | cmpZpx (zp : Byte)
  /-- CMP addr: `0xCD` (R150, R81). -/
  | cmpAbs (addr : Word)
  /-- CMP addr,X: `0xDD` (R150, R82). -/
  | cmpAbx (addr : Word)
  /-- CMP addr,Y: `0xD9` (R150, R83). -/
  | cmpAby (addr : Word)
  /-- CMP (zp,X): `0xC1` (R150, R85). -/
  | cmpIzx (zp : Byte)
  /-- CMP (zp),Y: `0xD1` (R150, R86). -/
  | cmpIzy (zp : Byte)
  /-- CPX #imm: `0xE0` (R151, R76). -/
  | cpxImm (imm : Byte)
  /-- CPX zp: `0xE4` (R151, R77). -/
  | cpxZp (zp : Byte)
  /-- CPX addr: `0xEC` (R151, R81). -/
  | cpxAbs (addr : Word)
  /-- CPY #imm: `0xC0` (R152, R76). -/
  | cpyImm (imm : Byte)
  /-- CPY zp: `0xC4` (R152, R77). -/
  | cpyZp (zp : Byte)
  /-- CPY addr: `0xCC` (R152, R81). -/
  | cpyAbs (addr : Word)
  /-- INC zp: `0xE6` (R160, R77). -/
  | incZp (zp : Byte)
  /-- INC zp,X: `0xF6` (R160, R78). -/
  | incZpx (zp : Byte)
  /-- INC addr: `0xEE` (R160, R81). -/
  | incAbs (addr : Word)
  /-- INC addr,X: `0xFE` (R160, R82). -/
  | incAbx (addr : Word)
  /-- INX: `0xE8` (R161, R74). -/
  | inx
  /-- INY: `0xC8` (R162, R74). -/
  | iny
  /-- DEC zp: `0xC6` (R163, R77). -/
  | decZp (zp : Byte)
  /-- DEC zp,X: `0xD6` (R163, R78). -/
  | decZpx (zp : Byte)
  /-- DEC addr: `0xCE` (R163, R81). -/
  | decAbs (addr : Word)
  /-- DEC addr,X: `0xDE` (R163, R82). -/
  | decAbx (addr : Word)
  /-- DEX: `0xCA` (R164, R74). -/
  | dex
  /-- DEY: `0x88` (R165, R74). -/
  | dey
  /-- ASL A: `0x0A` (R170, R75). -/
  | aslAcc
  /-- ASL zp: `0x06` (R170, R77). -/
  | aslZp (zp : Byte)
  /-- ASL zp,X: `0x16` (R170, R78). -/
  | aslZpx (zp : Byte)
  /-- ASL addr: `0x0E` (R170, R81). -/
  | aslAbs (addr : Word)
  /-- ASL addr,X: `0x1E` (R170, R82). -/
  | aslAbx (addr : Word)
  /-- LSR A: `0x4A` (R171, R75). -/
  | lsrAcc
  /-- LSR zp: `0x46` (R171, R77). -/
  | lsrZp (zp : Byte)
  /-- LSR zp,X: `0x56` (R171, R78). -/
  | lsrZpx (zp : Byte)
  /-- LSR addr: `0x4E` (R171, R81). -/
  | lsrAbs (addr : Word)
  /-- LSR addr,X: `0x5E` (R171, R82). -/
  | lsrAbx (addr : Word)
  /-- ROL A: `0x2A` (R172, R75). -/
  | rolAcc
  /-- ROL zp: `0x26` (R172, R77). -/
  | rolZp (zp : Byte)
  /-- ROL zp,X: `0x36` (R172, R78). -/
  | rolZpx (zp : Byte)
  /-- ROL addr: `0x2E` (R172, R81). -/
  | rolAbs (addr : Word)
  /-- ROL addr,X: `0x3E` (R172, R82). -/
  | rolAbx (addr : Word)
  /-- ROR A: `0x6A` (R173, R75). -/
  | rorAcc
  /-- ROR zp: `0x66` (R173, R77). -/
  | rorZp (zp : Byte)
  /-- ROR zp,X: `0x76` (R173, R78). -/
  | rorZpx (zp : Byte)
  /-- ROR addr: `0x6E` (R173, R81). -/
  | rorAbs (addr : Word)
  /-- ROR addr,X: `0x7E` (R173, R82). -/
  | rorAbx (addr : Word)
  /-- JMP addr: `0x4C` (R180, R81). -/
  | jmpAbs (addr : Word)
  /-- JMP (ptr): `0x6C` (R182, R84). -/
  | jmpInd (ptr : Word)
  /-- JSR addr: `0x20` (R183, R81). -/
  | jsr (addr : Word)
  /-- RTS: `0x60` (R184, R74). -/
  | rts
  /-- BCC off: `0x90` (R191, R80). -/
  | bcc (off : Byte)
  /-- BCS off: `0xB0` (R192, R80). -/
  | bcs (off : Byte)
  /-- BEQ off: `0xF0` (R193, R80). -/
  | beq (off : Byte)
  /-- BMI off: `0x30` (R194, R80). -/
  | bmi (off : Byte)
  /-- BNE off: `0xD0` (R195, R80). -/
  | bne (off : Byte)
  /-- BPL off: `0x10` (R196, R80). -/
  | bpl (off : Byte)
  /-- BVC off: `0x50` (R197, R80). -/
  | bvc (off : Byte)
  /-- BVS off: `0x70` (R198, R80). -/
  | bvs (off : Byte)
  /-- CLC: `0x18` (R205, R74). -/
  | clc
  /-- CLD: `0xD8` (R206, R74). -/
  | cld
  /-- CLI: `0x58` (R207, R74). -/
  | cli
  /-- CLV: `0xB8` (R208, R74). -/
  | clv
  /-- SEC: `0x38` (R209, R74). -/
  | sec
  /-- SED: `0xF8` (R210, R74). -/
  | sed
  /-- SEI: `0x78` (R211, R74). -/
  | sei
  /-- BRK: `0x00` (R215, R74). -/
  | brk
  /-- NOP: `0xEA` (R216, R74). -/
  | nop
  /-- RTI: `0x40` (R217, R74). -/
  | rti
deriving DecidableEq, Repr

/-- The mnemonic of an instruction (R93). -/
def Instr.mnemonic : Instr → Mnemonic
  | .ldaImm _ | .ldaZp _ | .ldaZpx _ | .ldaAbs _ | .ldaAbx _ | .ldaAby _ | .ldaIzx _ | .ldaIzy _ => .lda
  | .ldxImm _ | .ldxZp _ | .ldxZpy _ | .ldxAbs _ | .ldxAby _ => .ldx
  | .ldyImm _ | .ldyZp _ | .ldyZpx _ | .ldyAbs _ | .ldyAbx _ => .ldy
  | .staZp _ | .staZpx _ | .staAbs _ | .staAbx _ | .staAby _ | .staIzx _ | .staIzy _ => .sta
  | .stxZp _ | .stxZpy _ | .stxAbs _ => .stx
  | .styZp _ | .styZpx _ | .styAbs _ => .sty
  | .tax => .tax
  | .tay => .tay
  | .txa => .txa
  | .tya => .tya
  | .tsx => .tsx
  | .txs => .txs
  | .pha => .pha
  | .php => .php
  | .pla => .pla
  | .plp => .plp
  | .andImm _ | .andZp _ | .andZpx _ | .andAbs _ | .andAbx _ | .andAby _ | .andIzx _ | .andIzy _ => .and
  | .eorImm _ | .eorZp _ | .eorZpx _ | .eorAbs _ | .eorAbx _ | .eorAby _ | .eorIzx _ | .eorIzy _ => .eor
  | .oraImm _ | .oraZp _ | .oraZpx _ | .oraAbs _ | .oraAbx _ | .oraAby _ | .oraIzx _ | .oraIzy _ => .ora
  | .bitZp _ | .bitAbs _ => .bit
  | .adcImm _ | .adcZp _ | .adcZpx _ | .adcAbs _ | .adcAbx _ | .adcAby _ | .adcIzx _ | .adcIzy _ => .adc
  | .sbcImm _ | .sbcZp _ | .sbcZpx _ | .sbcAbs _ | .sbcAbx _ | .sbcAby _ | .sbcIzx _ | .sbcIzy _ => .sbc
  | .cmpImm _ | .cmpZp _ | .cmpZpx _ | .cmpAbs _ | .cmpAbx _ | .cmpAby _ | .cmpIzx _ | .cmpIzy _ => .cmp
  | .cpxImm _ | .cpxZp _ | .cpxAbs _ => .cpx
  | .cpyImm _ | .cpyZp _ | .cpyAbs _ => .cpy
  | .incZp _ | .incZpx _ | .incAbs _ | .incAbx _ => .inc
  | .inx => .inx
  | .iny => .iny
  | .decZp _ | .decZpx _ | .decAbs _ | .decAbx _ => .dec
  | .dex => .dex
  | .dey => .dey
  | .aslAcc | .aslZp _ | .aslZpx _ | .aslAbs _ | .aslAbx _ => .asl
  | .lsrAcc | .lsrZp _ | .lsrZpx _ | .lsrAbs _ | .lsrAbx _ => .lsr
  | .rolAcc | .rolZp _ | .rolZpx _ | .rolAbs _ | .rolAbx _ => .rol
  | .rorAcc | .rorZp _ | .rorZpx _ | .rorAbs _ | .rorAbx _ => .ror
  | .jmpAbs _ | .jmpInd _ => .jmp
  | .jsr _ => .jsr
  | .rts => .rts
  | .bcc _ => .bcc
  | .bcs _ => .bcs
  | .beq _ => .beq
  | .bmi _ => .bmi
  | .bne _ => .bne
  | .bpl _ => .bpl
  | .bvc _ => .bvc
  | .bvs _ => .bvs
  | .clc => .clc
  | .cld => .cld
  | .cli => .cli
  | .clv => .clv
  | .sec => .sec
  | .sed => .sed
  | .sei => .sei
  | .brk => .brk
  | .nop => .nop
  | .rti => .rti

/-- The addressing mode of an instruction (R93). -/
def Instr.mode : Instr → Mode
  | .tax | .tay | .txa | .tya | .tsx | .txs | .pha | .php | .pla | .plp | .inx | .iny | .dex | .dey | .rts
  | .clc | .cld | .cli | .clv | .sec | .sed | .sei | .brk | .nop | .rti => .imp
  | .aslAcc | .lsrAcc | .rolAcc | .rorAcc => .acc
  | .ldaImm _ | .ldxImm _ | .ldyImm _ | .andImm _ | .eorImm _ | .oraImm _ | .adcImm _ | .sbcImm _ | .cmpImm _
  | .cpxImm _ | .cpyImm _ => .imm
  | .ldaZp _ | .ldxZp _ | .ldyZp _ | .staZp _ | .stxZp _ | .styZp _ | .andZp _ | .eorZp _ | .oraZp _ | .bitZp _
  | .adcZp _ | .sbcZp _ | .cmpZp _ | .cpxZp _ | .cpyZp _ | .incZp _ | .decZp _ | .aslZp _ | .lsrZp _ | .rolZp _
  | .rorZp _ => .zp
  | .ldaZpx _ | .ldyZpx _ | .staZpx _ | .styZpx _ | .andZpx _ | .eorZpx _ | .oraZpx _ | .adcZpx _ | .sbcZpx _
  | .cmpZpx _ | .incZpx _ | .decZpx _ | .aslZpx _ | .lsrZpx _ | .rolZpx _ | .rorZpx _ => .zpx
  | .ldxZpy _ | .stxZpy _ => .zpy
  | .bcc _ | .bcs _ | .beq _ | .bmi _ | .bne _ | .bpl _ | .bvc _ | .bvs _ => .rel
  | .ldaAbs _ | .ldxAbs _ | .ldyAbs _ | .staAbs _ | .stxAbs _ | .styAbs _ | .andAbs _ | .eorAbs _ | .oraAbs _
  | .bitAbs _ | .adcAbs _ | .sbcAbs _ | .cmpAbs _ | .cpxAbs _ | .cpyAbs _ | .incAbs _ | .decAbs _ | .aslAbs _
  | .lsrAbs _ | .rolAbs _ | .rorAbs _ | .jmpAbs _ | .jsr _ => .abs
  | .ldaAbx _ | .ldyAbx _ | .staAbx _ | .andAbx _ | .eorAbx _ | .oraAbx _ | .adcAbx _ | .sbcAbx _ | .cmpAbx _
  | .incAbx _ | .decAbx _ | .aslAbx _ | .lsrAbx _ | .rolAbx _ | .rorAbx _ => .abx
  | .ldaAby _ | .ldxAby _ | .staAby _ | .andAby _ | .eorAby _ | .oraAby _ | .adcAby _ | .sbcAby _ | .cmpAby _ => .aby
  | .jmpInd _ => .ind
  | .ldaIzx _ | .staIzx _ | .andIzx _ | .eorIzx _ | .oraIzx _ | .adcIzx _ | .sbcIzx _ | .cmpIzx _ => .izx
  | .ldaIzy _ | .staIzy _ | .andIzy _ | .eorIzy _ | .oraIzy _ | .adcIzy _ | .sbcIzy _ | .cmpIzy _ => .izy

/-- The operand of an instruction as a number; 0 where it has none. -/
def Instr.operand : Instr → Nat
  | .tax | .tay | .txa | .tya | .tsx | .txs | .pha | .php | .pla | .plp | .inx | .iny | .dex | .dey | .aslAcc
  | .lsrAcc | .rolAcc | .rorAcc | .rts | .clc | .cld | .cli | .clv | .sec | .sed | .sei | .brk | .nop | .rti => 0
  | .ldaImm b | .ldaZp b | .ldaZpx b | .ldaIzx b | .ldaIzy b | .ldxImm b | .ldxZp b | .ldxZpy b | .ldyImm b
  | .ldyZp b | .ldyZpx b | .staZp b | .staZpx b | .staIzx b | .staIzy b | .stxZp b | .stxZpy b | .styZp b
  | .styZpx b | .andImm b | .andZp b | .andZpx b | .andIzx b | .andIzy b | .eorImm b | .eorZp b | .eorZpx b
  | .eorIzx b | .eorIzy b | .oraImm b | .oraZp b | .oraZpx b | .oraIzx b | .oraIzy b | .bitZp b | .adcImm b
  | .adcZp b | .adcZpx b | .adcIzx b | .adcIzy b | .sbcImm b | .sbcZp b | .sbcZpx b | .sbcIzx b | .sbcIzy b
  | .cmpImm b | .cmpZp b | .cmpZpx b | .cmpIzx b | .cmpIzy b | .cpxImm b | .cpxZp b | .cpyImm b | .cpyZp b
  | .incZp b | .incZpx b | .decZp b | .decZpx b | .aslZp b | .aslZpx b | .lsrZp b | .lsrZpx b | .rolZp b
  | .rolZpx b | .rorZp b | .rorZpx b | .bcc b | .bcs b | .beq b | .bmi b | .bne b | .bpl b | .bvc b | .bvs b => b.toNat
  | .ldaAbs w | .ldaAbx w | .ldaAby w | .ldxAbs w | .ldxAby w | .ldyAbs w | .ldyAbx w | .staAbs w | .staAbx w
  | .staAby w | .stxAbs w | .styAbs w | .andAbs w | .andAbx w | .andAby w | .eorAbs w | .eorAbx w | .eorAby w
  | .oraAbs w | .oraAbx w | .oraAby w | .bitAbs w | .adcAbs w | .adcAbx w | .adcAby w | .sbcAbs w | .sbcAbx w
  | .sbcAby w | .cmpAbs w | .cmpAbx w | .cmpAby w | .cpxAbs w | .cpyAbs w | .incAbs w | .incAbx w | .decAbs w
  | .decAbx w | .aslAbs w | .aslAbx w | .lsrAbs w | .lsrAbx w | .rolAbs w | .rolAbx w | .rorAbs w | .rorAbx w
  | .jmpAbs w | .jmpInd w | .jsr w => w.toNat

/-- The length of an instruction in bytes: the "Bytes" column of R93's tables. -/
def Instr.length (i : Instr) : Nat := i.mode.length

/-- An instruction as written: a mnemonic, a mode, and an operand that no width limits yet. -/
structure Line where
  mnemonic : Mnemonic
  mode : Mode
  operand : Nat
deriving DecidableEq, Repr

/-- How an instruction is written. -/
def Instr.toLine (i : Instr) : Line := { mnemonic := i.mnemonic, mode := i.mode, operand := i.operand }

end Sys2Proof
end

