-- ==== Sys2Proof/Machine/Arithmetic.lean ====
section
/-! DEFINITION. Addition, subtraction and comparison (`43_arithmetic.md` R145 to R152). -/

namespace Sys2Proof.Machine

/-- ADC of an operand (R146) through the decimal-mode gate (R145). -/
def addA (o : Byte × State) (len : Word) : Result := decimalGate (addCore o.2.a o.1 o.2.flagC) len o.2

/-- SBC of an operand (R148) through the decimal-mode gate (R145). -/
def subA (o : Byte × State) (len : Word) : Result := decimalGate (subCore o.2.a o.1 o.2.flagC) len o.2

/-- CMP with an operand (R150). -/
def compareA (o : Byte × State) : State := o.2.compare o.2.a o.1

/-- CPX with an operand (R151). -/
def compareX (o : Byte × State) : State := o.2.compare o.2.x o.1

/-- CPY with an operand (R152). -/
def compareY (o : Byte × State) : State := o.2.compare o.2.y o.1

/-- ADC #imm (R146). -/
def execAdcImm (imm : Byte) (s : State) : Result := addA (imm, s) 2

/-- ADC zp (R146). -/
def execAdcZp (zp : Byte) (s : State) : Result := addA (s.load (eaZp zp)) 2

/-- ADC zp,X (R146). -/
def execAdcZpx (zp : Byte) (s : State) : Result := addA (s.load (eaZpx zp s)) 2

/-- ADC addr (R146). -/
def execAdcAbs (addr : Word) (s : State) : Result := addA (s.load addr) 3

/-- ADC addr,X (R146). -/
def execAdcAbx (addr : Word) (s : State) : Result := addA (s.load (eaAbx addr s)) 3

/-- ADC addr,Y (R146). -/
def execAdcAby (addr : Word) (s : State) : Result := addA (s.load (eaAby addr s)) 3

/-- ADC (zp,X) (R146). -/
def execAdcIzx (zp : Byte) (s : State) : Result := addA (loadAt (eaIzx zp s)) 2

/-- ADC (zp),Y (R146). -/
def execAdcIzy (zp : Byte) (s : State) : Result := addA (loadAt (eaIzy zp s)) 2

/-- SBC #imm (R148). -/
def execSbcImm (imm : Byte) (s : State) : Result := subA (imm, s) 2

/-- SBC zp (R148). -/
def execSbcZp (zp : Byte) (s : State) : Result := subA (s.load (eaZp zp)) 2

/-- SBC zp,X (R148). -/
def execSbcZpx (zp : Byte) (s : State) : Result := subA (s.load (eaZpx zp s)) 2

/-- SBC addr (R148). -/
def execSbcAbs (addr : Word) (s : State) : Result := subA (s.load addr) 3

/-- SBC addr,X (R148). -/
def execSbcAbx (addr : Word) (s : State) : Result := subA (s.load (eaAbx addr s)) 3

/-- SBC addr,Y (R148). -/
def execSbcAby (addr : Word) (s : State) : Result := subA (s.load (eaAby addr s)) 3

/-- SBC (zp,X) (R148). -/
def execSbcIzx (zp : Byte) (s : State) : Result := subA (loadAt (eaIzx zp s)) 2

/-- SBC (zp),Y (R148). -/
def execSbcIzy (zp : Byte) (s : State) : Result := subA (loadAt (eaIzy zp s)) 2

/-- CMP #imm (R150). -/
def execCmpImm (imm : Byte) (s : State) : Result := .next ((compareA (imm, s)).advance 2)

/-- CMP zp (R150). -/
def execCmpZp (zp : Byte) (s : State) : Result := .next ((compareA (s.load (eaZp zp))).advance 2)

/-- CMP zp,X (R150). -/
def execCmpZpx (zp : Byte) (s : State) : Result := .next ((compareA (s.load (eaZpx zp s))).advance 2)

/-- CMP addr (R150). -/
def execCmpAbs (addr : Word) (s : State) : Result := .next ((compareA (s.load addr)).advance 3)

/-- CMP addr,X (R150). -/
def execCmpAbx (addr : Word) (s : State) : Result := .next ((compareA (s.load (eaAbx addr s))).advance 3)

/-- CMP addr,Y (R150). -/
def execCmpAby (addr : Word) (s : State) : Result := .next ((compareA (s.load (eaAby addr s))).advance 3)

/-- CMP (zp,X) (R150). -/
def execCmpIzx (zp : Byte) (s : State) : Result := .next ((compareA (loadAt (eaIzx zp s))).advance 2)

/-- CMP (zp),Y (R150). -/
def execCmpIzy (zp : Byte) (s : State) : Result := .next ((compareA (loadAt (eaIzy zp s))).advance 2)

/-- CPX #imm (R151). -/
def execCpxImm (imm : Byte) (s : State) : Result := .next ((compareX (imm, s)).advance 2)

/-- CPX zp (R151). -/
def execCpxZp (zp : Byte) (s : State) : Result := .next ((compareX (s.load (eaZp zp))).advance 2)

/-- CPX addr (R151). -/
def execCpxAbs (addr : Word) (s : State) : Result := .next ((compareX (s.load addr)).advance 3)

/-- CPY #imm (R152). -/
def execCpyImm (imm : Byte) (s : State) : Result := .next ((compareY (imm, s)).advance 2)

/-- CPY zp (R152). -/
def execCpyZp (zp : Byte) (s : State) : Result := .next ((compareY (s.load (eaZp zp))).advance 2)

/-- CPY addr (R152). -/
def execCpyAbs (addr : Word) (s : State) : Result := .next ((compareY (s.load addr)).advance 3)

end Sys2Proof.Machine
end

