-- ==== Sys2Proof/Machine/Branches.lean ====
section
/-! DEFINITION. Branches (`47_branches.md` R190 to R198). -/

namespace Sys2Proof.Machine

/-- `Branch(cond)` (R190). -/
def branch (cond : Bool) (off : Byte) (s : State) : State :=
  if cond then { s with pc := branchTarget off s } else s.advance 2

/-- BCC off (R191). -/
def execBcc (off : Byte) (s : State) : Result := .next (branch (!s.flagC) off s)

/-- BCS off (R192). -/
def execBcs (off : Byte) (s : State) : Result := .next (branch s.flagC off s)

/-- BEQ off (R193). -/
def execBeq (off : Byte) (s : State) : Result := .next (branch s.flagZ off s)

/-- BMI off (R194). -/
def execBmi (off : Byte) (s : State) : Result := .next (branch s.flagN off s)

/-- BNE off (R195). -/
def execBne (off : Byte) (s : State) : Result := .next (branch (!s.flagZ) off s)

/-- BPL off (R196). -/
def execBpl (off : Byte) (s : State) : Result := .next (branch (!s.flagN) off s)

/-- BVC off (R197). -/
def execBvc (off : Byte) (s : State) : Result := .next (branch (!s.flagV) off s)

/-- BVS off (R198). -/
def execBvs (off : Byte) (s : State) : Result := .next (branch s.flagV off s)

end Sys2Proof.Machine
end

