-- ==== Sys2Proof/Machine/LoadStore.lean ====
section
/-! DEFINITION. Loads and stores (`40_load_store.md` R110 to R115). An operand is a byte and the state after its load; an
immediate operand or a register is a byte and the state as it is. -/

namespace Sys2Proof.Machine

/-- Loads A and sets Z and N from it (R110). -/
def loadA (o : Byte × State) : State := { o.2 with a := o.1 }.setZN o.1

/-- Loads X and sets Z and N from it (R111). -/
def loadX (o : Byte × State) : State := { o.2 with x := o.1 }.setZN o.1

/-- Loads Y and sets Z and N from it (R112). -/
def loadY (o : Byte × State) : State := { o.2 with y := o.1 }.setZN o.1

/-- The store of a mode that loads a pointer: it comes after the pointer's loads (R52, R55). -/
def storeAt (p : Word × State) (v : Byte) : State := p.2.store p.1 v

/-- LDA #imm (R110). -/
def execLdaImm (imm : Byte) (s : State) : Result := .next ((loadA (imm, s)).advance 2)

/-- LDA zp (R110). -/
def execLdaZp (zp : Byte) (s : State) : Result := .next ((loadA (s.load (eaZp zp))).advance 2)

/-- LDA zp,X (R110). -/
def execLdaZpx (zp : Byte) (s : State) : Result := .next ((loadA (s.load (eaZpx zp s))).advance 2)

/-- LDA addr (R110). -/
def execLdaAbs (addr : Word) (s : State) : Result := .next ((loadA (s.load addr)).advance 3)

/-- LDA addr,X (R110). -/
def execLdaAbx (addr : Word) (s : State) : Result := .next ((loadA (s.load (eaAbx addr s))).advance 3)

/-- LDA addr,Y (R110). -/
def execLdaAby (addr : Word) (s : State) : Result := .next ((loadA (s.load (eaAby addr s))).advance 3)

/-- LDA (zp,X) (R110). -/
def execLdaIzx (zp : Byte) (s : State) : Result := .next ((loadA (loadAt (eaIzx zp s))).advance 2)

/-- LDA (zp),Y (R110). -/
def execLdaIzy (zp : Byte) (s : State) : Result := .next ((loadA (loadAt (eaIzy zp s))).advance 2)

/-- LDX #imm (R111). -/
def execLdxImm (imm : Byte) (s : State) : Result := .next ((loadX (imm, s)).advance 2)

/-- LDX zp (R111). -/
def execLdxZp (zp : Byte) (s : State) : Result := .next ((loadX (s.load (eaZp zp))).advance 2)

/-- LDX zp,Y (R111). -/
def execLdxZpy (zp : Byte) (s : State) : Result := .next ((loadX (s.load (eaZpy zp s))).advance 2)

/-- LDX addr (R111). -/
def execLdxAbs (addr : Word) (s : State) : Result := .next ((loadX (s.load addr)).advance 3)

/-- LDX addr,Y (R111). -/
def execLdxAby (addr : Word) (s : State) : Result := .next ((loadX (s.load (eaAby addr s))).advance 3)

/-- LDY #imm (R112). -/
def execLdyImm (imm : Byte) (s : State) : Result := .next ((loadY (imm, s)).advance 2)

/-- LDY zp (R112). -/
def execLdyZp (zp : Byte) (s : State) : Result := .next ((loadY (s.load (eaZp zp))).advance 2)

/-- LDY zp,X (R112). -/
def execLdyZpx (zp : Byte) (s : State) : Result := .next ((loadY (s.load (eaZpx zp s))).advance 2)

/-- LDY addr (R112). -/
def execLdyAbs (addr : Word) (s : State) : Result := .next ((loadY (s.load addr)).advance 3)

/-- LDY addr,X (R112). -/
def execLdyAbx (addr : Word) (s : State) : Result := .next ((loadY (s.load (eaAbx addr s))).advance 3)

/-- STA zp (R113). -/
def execStaZp (zp : Byte) (s : State) : Result := .next ((s.store (eaZp zp) s.a).advance 2)

/-- STA zp,X (R113). -/
def execStaZpx (zp : Byte) (s : State) : Result := .next ((s.store (eaZpx zp s) s.a).advance 2)

/-- STA addr (R113). -/
def execStaAbs (addr : Word) (s : State) : Result := .next ((s.store addr s.a).advance 3)

/-- STA addr,X (R113). -/
def execStaAbx (addr : Word) (s : State) : Result := .next ((s.store (eaAbx addr s) s.a).advance 3)

/-- STA addr,Y (R113). -/
def execStaAby (addr : Word) (s : State) : Result := .next ((s.store (eaAby addr s) s.a).advance 3)

/-- STA (zp,X) (R113). -/
def execStaIzx (zp : Byte) (s : State) : Result := .next ((storeAt (eaIzx zp s) s.a).advance 2)

/-- STA (zp),Y (R113). -/
def execStaIzy (zp : Byte) (s : State) : Result := .next ((storeAt (eaIzy zp s) s.a).advance 2)

/-- STX zp (R114). -/
def execStxZp (zp : Byte) (s : State) : Result := .next ((s.store (eaZp zp) s.x).advance 2)

/-- STX zp,Y (R114). -/
def execStxZpy (zp : Byte) (s : State) : Result := .next ((s.store (eaZpy zp s) s.x).advance 2)

/-- STX addr (R114). -/
def execStxAbs (addr : Word) (s : State) : Result := .next ((s.store addr s.x).advance 3)

/-- STY zp (R115). -/
def execStyZp (zp : Byte) (s : State) : Result := .next ((s.store (eaZp zp) s.y).advance 2)

/-- STY zp,X (R115). -/
def execStyZpx (zp : Byte) (s : State) : Result := .next ((s.store (eaZpx zp s) s.y).advance 2)

/-- STY addr (R115). -/
def execStyAbs (addr : Word) (s : State) : Result := .next ((s.store addr s.y).advance 3)

end Sys2Proof.Machine
end

