-- ==== Sys2Proof/Machine/IncDec.lean ====
section
/-! DEFINITION. Increments and decrements (`44_inc_dec.md` R160 to R165). -/

namespace Sys2Proof.Machine

/-- Stores a byte back and sets Z and N from it (R160, R163). -/
def writeBack (ea : Word) (r : Byte) (s : State) : State := (s.store ea r).setZN r

/-- INC at an address (R160): one load, then one store (R52). -/
def incAt (ea : Word) (s : State) : State := writeBack ea (s.read ea + 1) (s.touch ea)

/-- DEC at an address (R163): one load, then one store (R52). -/
def decAt (ea : Word) (s : State) : State := writeBack ea (s.read ea - 1) (s.touch ea)

/-- INC zp (R160). -/
def execIncZp (zp : Byte) (s : State) : Result := .next ((incAt (eaZp zp) s).advance 2)

/-- INC zp,X (R160). -/
def execIncZpx (zp : Byte) (s : State) : Result := .next ((incAt (eaZpx zp s) s).advance 2)

/-- INC addr (R160). -/
def execIncAbs (addr : Word) (s : State) : Result := .next ((incAt addr s).advance 3)

/-- INC addr,X (R160). -/
def execIncAbx (addr : Word) (s : State) : Result := .next ((incAt (eaAbx addr s) s).advance 3)

/-- DEC zp (R163). -/
def execDecZp (zp : Byte) (s : State) : Result := .next ((decAt (eaZp zp) s).advance 2)

/-- DEC zp,X (R163). -/
def execDecZpx (zp : Byte) (s : State) : Result := .next ((decAt (eaZpx zp s) s).advance 2)

/-- DEC addr (R163). -/
def execDecAbs (addr : Word) (s : State) : Result := .next ((decAt addr s).advance 3)

/-- DEC addr,X (R163). -/
def execDecAbx (addr : Word) (s : State) : Result := .next ((decAt (eaAbx addr s) s).advance 3)

/-- INX (R161). -/
def execInx (s : State) : Result := .next ((loadX (s.x + 1, s)).advance 1)

/-- INY (R162). -/
def execIny (s : State) : Result := .next ((loadY (s.y + 1, s)).advance 1)

/-- DEX (R164). -/
def execDex (s : State) : Result := .next ((loadX (s.x - 1, s)).advance 1)

/-- DEY (R165). -/
def execDey (s : State) : Result := .next ((loadY (s.y - 1, s)).advance 1)

end Sys2Proof.Machine
end

