-- ==== Sys2Proof/Machine/Jumps.lean ====
section
/-! DEFINITION. Jumps and calls (`46_jumps_calls.md` R180 to R184): these assign PC themselves. -/

namespace Sys2Proof.Machine

/-- JMP addr (R180). -/
def execJmpAbs (addr : Word) (s : State) : Result := .next { s with pc := addr }

/-- JMP (ptr) (R182). -/
def execJmpInd (ptr : Word) (s : State) : Result :=
  let t := indirectTarget ptr s
  .next { t.2 with pc := t.1 }

/-- JSR addr (R183). -/
def execJsr (addr : Word) (s : State) : Result :=
  .next { (s.push (hiByte (s.pc + 2))).push (loByte (s.pc + 2)) with pc := addr }

/-- RTS (R184). -/
def execRts (s : State) : Result :=
  let lo := s.pull
  let hi := lo.2.pull
  .next { hi.2 with pc := joinBytes hi.1 lo.1 + 1 }

end Sys2Proof.Machine
end

