-- ==== Sys2Proof/Machine/Logical.lean ====
section
/-! DEFINITION. Logical operations (`42_logical.md` R135 to R138). AND, EOR and ORA load A with their result. -/

namespace Sys2Proof.Machine

/-- AND (R135). -/
def andA (o : Byte × State) : State := loadA (o.2.a &&& o.1, o.2)

/-- EOR (R136). -/
def eorA (o : Byte × State) : State := loadA (o.2.a ^^^ o.1, o.2)

/-- ORA (R137). -/
def oraA (o : Byte × State) : State := loadA (o.2.a ||| o.1, o.2)

/-- BIT (R138): Z from the AND with A, N and V from the operand itself; A is not changed. -/
def bitTest (o : Byte × State) : State :=
  { o.2 with flagZ := (o.2.a &&& o.1) == 0, flagN := o.1.msb, flagV := o.1.getLsbD 6 }

/-- AND #imm (R135). -/
def execAndImm (imm : Byte) (s : State) : Result := .next ((andA (imm, s)).advance 2)

/-- AND zp (R135). -/
def execAndZp (zp : Byte) (s : State) : Result := .next ((andA (s.load (eaZp zp))).advance 2)

/-- AND zp,X (R135). -/
def execAndZpx (zp : Byte) (s : State) : Result := .next ((andA (s.load (eaZpx zp s))).advance 2)

/-- AND addr (R135). -/
def execAndAbs (addr : Word) (s : State) : Result := .next ((andA (s.load addr)).advance 3)

/-- AND addr,X (R135). -/
def execAndAbx (addr : Word) (s : State) : Result := .next ((andA (s.load (eaAbx addr s))).advance 3)

/-- AND addr,Y (R135). -/
def execAndAby (addr : Word) (s : State) : Result := .next ((andA (s.load (eaAby addr s))).advance 3)

/-- AND (zp,X) (R135). -/
def execAndIzx (zp : Byte) (s : State) : Result := .next ((andA (loadAt (eaIzx zp s))).advance 2)

/-- AND (zp),Y (R135). -/
def execAndIzy (zp : Byte) (s : State) : Result := .next ((andA (loadAt (eaIzy zp s))).advance 2)

/-- EOR #imm (R136). -/
def execEorImm (imm : Byte) (s : State) : Result := .next ((eorA (imm, s)).advance 2)

/-- EOR zp (R136). -/
def execEorZp (zp : Byte) (s : State) : Result := .next ((eorA (s.load (eaZp zp))).advance 2)

/-- EOR zp,X (R136). -/
def execEorZpx (zp : Byte) (s : State) : Result := .next ((eorA (s.load (eaZpx zp s))).advance 2)

/-- EOR addr (R136). -/
def execEorAbs (addr : Word) (s : State) : Result := .next ((eorA (s.load addr)).advance 3)

/-- EOR addr,X (R136). -/
def execEorAbx (addr : Word) (s : State) : Result := .next ((eorA (s.load (eaAbx addr s))).advance 3)

/-- EOR addr,Y (R136). -/
def execEorAby (addr : Word) (s : State) : Result := .next ((eorA (s.load (eaAby addr s))).advance 3)

/-- EOR (zp,X) (R136). -/
def execEorIzx (zp : Byte) (s : State) : Result := .next ((eorA (loadAt (eaIzx zp s))).advance 2)

/-- EOR (zp),Y (R136). -/
def execEorIzy (zp : Byte) (s : State) : Result := .next ((eorA (loadAt (eaIzy zp s))).advance 2)

/-- ORA #imm (R137). -/
def execOraImm (imm : Byte) (s : State) : Result := .next ((oraA (imm, s)).advance 2)

/-- ORA zp (R137). -/
def execOraZp (zp : Byte) (s : State) : Result := .next ((oraA (s.load (eaZp zp))).advance 2)

/-- ORA zp,X (R137). -/
def execOraZpx (zp : Byte) (s : State) : Result := .next ((oraA (s.load (eaZpx zp s))).advance 2)

/-- ORA addr (R137). -/
def execOraAbs (addr : Word) (s : State) : Result := .next ((oraA (s.load addr)).advance 3)

/-- ORA addr,X (R137). -/
def execOraAbx (addr : Word) (s : State) : Result := .next ((oraA (s.load (eaAbx addr s))).advance 3)

/-- ORA addr,Y (R137). -/
def execOraAby (addr : Word) (s : State) : Result := .next ((oraA (s.load (eaAby addr s))).advance 3)

/-- ORA (zp,X) (R137). -/
def execOraIzx (zp : Byte) (s : State) : Result := .next ((oraA (loadAt (eaIzx zp s))).advance 2)

/-- ORA (zp),Y (R137). -/
def execOraIzy (zp : Byte) (s : State) : Result := .next ((oraA (loadAt (eaIzy zp s))).advance 2)

/-- BIT zp (R138). -/
def execBitZp (zp : Byte) (s : State) : Result := .next ((bitTest (s.load (eaZp zp))).advance 2)

/-- BIT addr (R138). -/
def execBitAbs (addr : Word) (s : State) : Result := .next ((bitTest (s.load addr)).advance 3)

end Sys2Proof.Machine
end

