-- ==== Sys2Proof/Machine/Shifts.lean ====
section
/-! DEFINITION. Shifts and rotates (`45_shifts.md` R170 to R174). -/

namespace Sys2Proof.Machine

/-- The Accumulator form (R174): the result goes to A, the flags come from the result. -/
def shiftA (o : ShiftOut) (s : State) : State := { s with a := o.r, flagC := o.carry }.setZN o.r

/-- The memory forms (R174): after the load of the operand, the result is stored to the same address (R52); the flags
come from the result. -/
def shiftAt (ea : Word) (o : ShiftOut) (s : State) : State :=
  { (s.touch ea).store ea o.r with flagC := o.carry }.setZN o.r

/-- ASL A (R170). -/
def execAslAcc (s : State) : Result := .next ((shiftA (aslCore s.a) s).advance 1)

/-- ASL zp (R170). -/
def execAslZp (zp : Byte) (s : State) : Result := .next ((shiftAt (eaZp zp) (aslCore (s.read (eaZp zp))) s).advance 2)

/-- ASL zp,X (R170). -/
def execAslZpx (zp : Byte) (s : State) : Result := .next ((shiftAt (eaZpx zp s) (aslCore (s.read (eaZpx zp s))) s).advance 2)

/-- ASL addr (R170). -/
def execAslAbs (addr : Word) (s : State) : Result := .next ((shiftAt addr (aslCore (s.read addr)) s).advance 3)

/-- ASL addr,X (R170). -/
def execAslAbx (addr : Word) (s : State) : Result := .next ((shiftAt (eaAbx addr s) (aslCore (s.read (eaAbx addr s))) s).advance 3)

/-- LSR A (R171). -/
def execLsrAcc (s : State) : Result := .next ((shiftA (lsrCore s.a) s).advance 1)

/-- LSR zp (R171). -/
def execLsrZp (zp : Byte) (s : State) : Result := .next ((shiftAt (eaZp zp) (lsrCore (s.read (eaZp zp))) s).advance 2)

/-- LSR zp,X (R171). -/
def execLsrZpx (zp : Byte) (s : State) : Result := .next ((shiftAt (eaZpx zp s) (lsrCore (s.read (eaZpx zp s))) s).advance 2)

/-- LSR addr (R171). -/
def execLsrAbs (addr : Word) (s : State) : Result := .next ((shiftAt addr (lsrCore (s.read addr)) s).advance 3)

/-- LSR addr,X (R171). -/
def execLsrAbx (addr : Word) (s : State) : Result := .next ((shiftAt (eaAbx addr s) (lsrCore (s.read (eaAbx addr s))) s).advance 3)

/-- ROL A (R172). -/
def execRolAcc (s : State) : Result := .next ((shiftA (rolCore s.a s.flagC) s).advance 1)

/-- ROL zp (R172). -/
def execRolZp (zp : Byte) (s : State) : Result := .next ((shiftAt (eaZp zp) (rolCore (s.read (eaZp zp)) s.flagC) s).advance 2)

/-- ROL zp,X (R172). -/
def execRolZpx (zp : Byte) (s : State) : Result := .next ((shiftAt (eaZpx zp s) (rolCore (s.read (eaZpx zp s)) s.flagC) s).advance 2)

/-- ROL addr (R172). -/
def execRolAbs (addr : Word) (s : State) : Result := .next ((shiftAt addr (rolCore (s.read addr) s.flagC) s).advance 3)

/-- ROL addr,X (R172). -/
def execRolAbx (addr : Word) (s : State) : Result := .next ((shiftAt (eaAbx addr s) (rolCore (s.read (eaAbx addr s)) s.flagC) s).advance 3)

/-- ROR A (R173). -/
def execRorAcc (s : State) : Result := .next ((shiftA (rorCore s.a s.flagC) s).advance 1)

/-- ROR zp (R173). -/
def execRorZp (zp : Byte) (s : State) : Result := .next ((shiftAt (eaZp zp) (rorCore (s.read (eaZp zp)) s.flagC) s).advance 2)

/-- ROR zp,X (R173). -/
def execRorZpx (zp : Byte) (s : State) : Result := .next ((shiftAt (eaZpx zp s) (rorCore (s.read (eaZpx zp s)) s.flagC) s).advance 2)

/-- ROR addr (R173). -/
def execRorAbs (addr : Word) (s : State) : Result := .next ((shiftAt addr (rorCore (s.read addr) s.flagC) s).advance 3)

/-- ROR addr,X (R173). -/
def execRorAbx (addr : Word) (s : State) : Result := .next ((shiftAt (eaAbx addr s) (rorCore (s.read (eaAbx addr s)) s.flagC) s).advance 3)

end Sys2Proof.Machine
end

