-- ==== Sys2Proof/Machine/StatusFlags.lean ====
section
/-! DEFINITION. Status flag changes (`48_status_flags.md` R205 to R211). -/

namespace Sys2Proof.Machine

/-- CLC (R205). -/
def execClc (s : State) : Result := .next ({ s with flagC := false }.advance 1)

/-- CLD (R206). -/
def execCld (s : State) : Result := .next ({ s with flagD := false }.advance 1)

/-- CLI (R207). -/
def execCli (s : State) : Result := .next ({ s with flagI := false }.advance 1)

/-- CLV (R208). -/
def execClv (s : State) : Result := .next ({ s with flagV := false }.advance 1)

/-- SEC (R209). -/
def execSec (s : State) : Result := .next ({ s with flagC := true }.advance 1)

/-- SED (R210). -/
def execSed (s : State) : Result := .next ({ s with flagD := true }.advance 1)

/-- SEI (R211). -/
def execSei (s : State) : Result := .next ({ s with flagI := true }.advance 1)

end Sys2Proof.Machine
end

