-- ==== Sys2Proof/Machine/System.lean ====
section
/-! DEFINITION. System functions (`49_system.md` R215 to R217). -/

namespace Sys2Proof.Machine

/-- BRK (R215). -/
def execBrk (s : State) : Result :=
  let t := s.enterTrap (s.pc + BitVec.ofNat 16 s.params.brkPushOffset) (s.pushedB s.params.brkPushedB) irqVector
  .next { t with flagB := true, flagI := s.flagI || s.params.brkSetsI }

/-- NOP (R216). -/
def execNop (s : State) : Result := .next (s.advance 1)

/-- RTI (R217). -/
def execRti (s : State) : Result := .next s.leaveTrap

end Sys2Proof.Machine
end

