-- ==== Sys2Proof/Machine/Transfers.lean ====
section
/-! DEFINITION. Register transfers and stack operations (`41_transfers_stack.md` R120 to R129). A transfer loads its
destination as a load does, Z and N included; TXS alone sets no flag. -/

namespace Sys2Proof.Machine

/-- Pulls the status byte into the flags (R129, R217). -/
def State.pullFlags (s : State) : State :=
  let p := s.pull
  p.2.unpackP p.1

/-- TAX (R120). -/
def execTax (s : State) : Result := .next ((loadX (s.a, s)).advance 1)

/-- TAY (R121). -/
def execTay (s : State) : Result := .next ((loadY (s.a, s)).advance 1)

/-- TXA (R122). -/
def execTxa (s : State) : Result := .next ((loadA (s.x, s)).advance 1)

/-- TYA (R123). -/
def execTya (s : State) : Result := .next ((loadA (s.y, s)).advance 1)

/-- TSX (R124). -/
def execTsx (s : State) : Result := .next ((loadX (s.sp, s)).advance 1)

/-- TXS (R125). It is one byte long, so the entry sequence of R281 ends at `0x8005`, not at the `0x8006` R281 names
(log 28). -/
def execTxs (s : State) : Result := .next ({ s with sp := s.x }.advance 1)

/-- PHA (R126). -/
def execPha (s : State) : Result := .next ((s.push s.a).advance 1)

/-- PHP (R127). -/
def execPhp (s : State) : Result := .next ((s.push (s.packP (s.pushedB s.params.phpPushedB))).advance 1)

/-- PLA (R128). -/
def execPla (s : State) : Result := .next ((loadA s.pull).advance 1)

/-- PLP (R129). -/
def execPlp (s : State) : Result := .next (s.pullFlags.advance 1)

end Sys2Proof.Machine
end

