-- ==== Sys2Proof/WellFormed.lean ====
section
/-! DEFINITION. Which written instructions are instructions: the mode is one the mnemonic has (`30_encoding.md` R93,
R102) and the operand fits its format (R70). Every term of `Instr` passes, since R96 leaves no reserved field. -/

namespace Sys2Proof

/-- The modes of each mnemonic (R102). -/
def Mnemonic.modes : Mnemonic → List Mode
  | .lda | .and | .eor | .ora | .adc | .sbc | .cmp => [.imm, .zp, .zpx, .abs, .abx, .aby, .izx, .izy]
  | .ldx => [.imm, .zp, .zpy, .abs, .aby]
  | .ldy => [.imm, .zp, .zpx, .abs, .abx]
  | .sta => [.zp, .zpx, .abs, .abx, .aby, .izx, .izy]
  | .stx => [.zp, .zpy, .abs]
  | .sty => [.zp, .zpx, .abs]
  | .tax | .tay | .txa | .tya | .tsx | .txs | .pha | .php | .pla | .plp | .inx | .iny | .dex | .dey | .rts
  | .clc | .cld | .cli | .clv | .sec | .sed | .sei | .brk | .nop | .rti => [.imp]
  | .bit => [.zp, .abs]
  | .cpx | .cpy => [.imm, .zp, .abs]
  | .inc | .dec => [.zp, .zpx, .abs, .abx]
  | .asl | .lsr | .rol | .ror => [.acc, .zp, .zpx, .abs, .abx]
  | .jmp => [.abs, .ind]
  | .jsr => [.abs]
  | .bcc | .bcs | .beq | .bmi | .bne | .bpl | .bvc | .bvs => [.rel]

/-- The mode is one of the mnemonic's (R93: a blank cell is an assembly error). -/
def Line.modeAvailable (l : Line) : Bool := l.mnemonic.modes.contains l.mode

/-- The operand fits the format's operand bytes (R70): none, one or two. -/
def Line.operandFits (l : Line) : Bool := decide (l.operand < 256 ^ (l.mode.length - 1))

/-- A written instruction that has an encoding. -/
def Line.wellFormed (l : Line) : Bool := l.modeAvailable && l.operandFits

/-- An instruction is well formed when the way it is written is. -/
abbrev WellFormed (i : Instr) : Prop := i.toLine.wellFormed = true

end Sys2Proof
end

