-- ==== Sys2Proof/Decode.lean ====
section
/-! DEFINITION. The opcode map of `30_encoding.md` R93 as a table, the decoder (a lookup of the whole opcode byte,
R71, total on any bytes and refusing by name), and after it the encoder. -/

namespace Sys2Proof

/-- What follows an opcode byte (R70): nothing (F1), one operand byte (F2), or two, low byte first (F3, R50). -/
inductive Form where
  | f1 (i : Instr)
  | f2 (k : Byte → Instr)
  | f3 (k : Word → Instr)

/-- A row of the opcode map: the opcode byte and the instruction it selects. -/
structure Row where
  opcode : Byte
  form : Form

/-- Load/Store (R93). -/
def loadStoreRows : List Row := [
  ⟨0xA9, .f2 .ldaImm⟩, ⟨0xA5, .f2 .ldaZp⟩, ⟨0xB5, .f2 .ldaZpx⟩, ⟨0xAD, .f3 .ldaAbs⟩, ⟨0xBD, .f3 .ldaAbx⟩,
  ⟨0xB9, .f3 .ldaAby⟩, ⟨0xA1, .f2 .ldaIzx⟩, ⟨0xB1, .f2 .ldaIzy⟩, ⟨0xA2, .f2 .ldxImm⟩, ⟨0xA6, .f2 .ldxZp⟩,
  ⟨0xB6, .f2 .ldxZpy⟩, ⟨0xAE, .f3 .ldxAbs⟩, ⟨0xBE, .f3 .ldxAby⟩, ⟨0xA0, .f2 .ldyImm⟩, ⟨0xA4, .f2 .ldyZp⟩,
  ⟨0xB4, .f2 .ldyZpx⟩, ⟨0xAC, .f3 .ldyAbs⟩, ⟨0xBC, .f3 .ldyAbx⟩, ⟨0x85, .f2 .staZp⟩, ⟨0x95, .f2 .staZpx⟩,
  ⟨0x8D, .f3 .staAbs⟩, ⟨0x9D, .f3 .staAbx⟩, ⟨0x99, .f3 .staAby⟩, ⟨0x81, .f2 .staIzx⟩, ⟨0x91, .f2 .staIzy⟩,
  ⟨0x86, .f2 .stxZp⟩, ⟨0x96, .f2 .stxZpy⟩, ⟨0x8E, .f3 .stxAbs⟩, ⟨0x84, .f2 .styZp⟩, ⟨0x94, .f2 .styZpx⟩,
  ⟨0x8C, .f3 .styAbs⟩]

/-- Register Transfers and Stack Operations (R93). -/
def transferRows : List Row := [
  ⟨0xAA, .f1 .tax⟩, ⟨0xA8, .f1 .tay⟩, ⟨0x8A, .f1 .txa⟩, ⟨0x98, .f1 .tya⟩, ⟨0xBA, .f1 .tsx⟩, ⟨0x9A, .f1 .txs⟩,
  ⟨0x48, .f1 .pha⟩, ⟨0x08, .f1 .php⟩, ⟨0x68, .f1 .pla⟩, ⟨0x28, .f1 .plp⟩]

/-- Logical (R93). -/
def logicalRows : List Row := [
  ⟨0x29, .f2 .andImm⟩, ⟨0x25, .f2 .andZp⟩, ⟨0x35, .f2 .andZpx⟩, ⟨0x2D, .f3 .andAbs⟩, ⟨0x3D, .f3 .andAbx⟩,
  ⟨0x39, .f3 .andAby⟩, ⟨0x21, .f2 .andIzx⟩, ⟨0x31, .f2 .andIzy⟩, ⟨0x49, .f2 .eorImm⟩, ⟨0x45, .f2 .eorZp⟩,
  ⟨0x55, .f2 .eorZpx⟩, ⟨0x4D, .f3 .eorAbs⟩, ⟨0x5D, .f3 .eorAbx⟩, ⟨0x59, .f3 .eorAby⟩, ⟨0x41, .f2 .eorIzx⟩,
  ⟨0x51, .f2 .eorIzy⟩, ⟨0x09, .f2 .oraImm⟩, ⟨0x05, .f2 .oraZp⟩, ⟨0x15, .f2 .oraZpx⟩, ⟨0x0D, .f3 .oraAbs⟩,
  ⟨0x1D, .f3 .oraAbx⟩, ⟨0x19, .f3 .oraAby⟩, ⟨0x01, .f2 .oraIzx⟩, ⟨0x11, .f2 .oraIzy⟩, ⟨0x24, .f2 .bitZp⟩,
  ⟨0x2C, .f3 .bitAbs⟩]

/-- Arithmetic (R93). -/
def arithmeticRows : List Row := [
  ⟨0x69, .f2 .adcImm⟩, ⟨0x65, .f2 .adcZp⟩, ⟨0x75, .f2 .adcZpx⟩, ⟨0x6D, .f3 .adcAbs⟩, ⟨0x7D, .f3 .adcAbx⟩,
  ⟨0x79, .f3 .adcAby⟩, ⟨0x61, .f2 .adcIzx⟩, ⟨0x71, .f2 .adcIzy⟩, ⟨0xE9, .f2 .sbcImm⟩, ⟨0xE5, .f2 .sbcZp⟩,
  ⟨0xF5, .f2 .sbcZpx⟩, ⟨0xED, .f3 .sbcAbs⟩, ⟨0xFD, .f3 .sbcAbx⟩, ⟨0xF9, .f3 .sbcAby⟩, ⟨0xE1, .f2 .sbcIzx⟩,
  ⟨0xF1, .f2 .sbcIzy⟩, ⟨0xC9, .f2 .cmpImm⟩, ⟨0xC5, .f2 .cmpZp⟩, ⟨0xD5, .f2 .cmpZpx⟩, ⟨0xCD, .f3 .cmpAbs⟩,
  ⟨0xDD, .f3 .cmpAbx⟩, ⟨0xD9, .f3 .cmpAby⟩, ⟨0xC1, .f2 .cmpIzx⟩, ⟨0xD1, .f2 .cmpIzy⟩, ⟨0xE0, .f2 .cpxImm⟩,
  ⟨0xE4, .f2 .cpxZp⟩, ⟨0xEC, .f3 .cpxAbs⟩, ⟨0xC0, .f2 .cpyImm⟩, ⟨0xC4, .f2 .cpyZp⟩, ⟨0xCC, .f3 .cpyAbs⟩]

/-- Increments & Decrements (R93). -/
def incDecRows : List Row := [
  ⟨0xE6, .f2 .incZp⟩, ⟨0xF6, .f2 .incZpx⟩, ⟨0xEE, .f3 .incAbs⟩, ⟨0xFE, .f3 .incAbx⟩, ⟨0xE8, .f1 .inx⟩,
  ⟨0xC8, .f1 .iny⟩, ⟨0xC6, .f2 .decZp⟩, ⟨0xD6, .f2 .decZpx⟩, ⟨0xCE, .f3 .decAbs⟩, ⟨0xDE, .f3 .decAbx⟩,
  ⟨0xCA, .f1 .dex⟩, ⟨0x88, .f1 .dey⟩]

/-- Shifts (R93). -/
def shiftRows : List Row := [
  ⟨0x0A, .f1 .aslAcc⟩, ⟨0x06, .f2 .aslZp⟩, ⟨0x16, .f2 .aslZpx⟩, ⟨0x0E, .f3 .aslAbs⟩, ⟨0x1E, .f3 .aslAbx⟩,
  ⟨0x4A, .f1 .lsrAcc⟩, ⟨0x46, .f2 .lsrZp⟩, ⟨0x56, .f2 .lsrZpx⟩, ⟨0x4E, .f3 .lsrAbs⟩, ⟨0x5E, .f3 .lsrAbx⟩,
  ⟨0x2A, .f1 .rolAcc⟩, ⟨0x26, .f2 .rolZp⟩, ⟨0x36, .f2 .rolZpx⟩, ⟨0x2E, .f3 .rolAbs⟩, ⟨0x3E, .f3 .rolAbx⟩,
  ⟨0x6A, .f1 .rorAcc⟩, ⟨0x66, .f2 .rorZp⟩, ⟨0x76, .f2 .rorZpx⟩, ⟨0x6E, .f3 .rorAbs⟩, ⟨0x7E, .f3 .rorAbx⟩]

/-- Jumps & Calls (R93). -/
def jumpRows : List Row := [
  ⟨0x4C, .f3 .jmpAbs⟩, ⟨0x6C, .f3 .jmpInd⟩, ⟨0x20, .f3 .jsr⟩, ⟨0x60, .f1 .rts⟩]

/-- Branches (R93). -/
def branchRows : List Row := [
  ⟨0x90, .f2 .bcc⟩, ⟨0xB0, .f2 .bcs⟩, ⟨0xF0, .f2 .beq⟩, ⟨0x30, .f2 .bmi⟩, ⟨0xD0, .f2 .bne⟩, ⟨0x10, .f2 .bpl⟩,
  ⟨0x50, .f2 .bvc⟩, ⟨0x70, .f2 .bvs⟩]

/-- Status Flag Changes (R93). -/
def statusRows : List Row := [
  ⟨0x18, .f1 .clc⟩, ⟨0xD8, .f1 .cld⟩, ⟨0x58, .f1 .cli⟩, ⟨0xB8, .f1 .clv⟩, ⟨0x38, .f1 .sec⟩, ⟨0xF8, .f1 .sed⟩,
  ⟨0x78, .f1 .sei⟩]

/-- System Functions (R93). -/
def systemRows : List Row := [
  ⟨0x00, .f1 .brk⟩, ⟨0xEA, .f1 .nop⟩, ⟨0x40, .f1 .rti⟩]

/-- The opcode map: 151 rows (R93). -/
def opcodeTable : List Row :=
  loadStoreRows ++ transferRows ++ logicalRows ++ arithmeticRows ++ incDecRows ++
    shiftRows ++ jumpRows ++ branchRows ++ statusRows ++ systemRows

/-- The row of an opcode byte, if it is one of the 151 (R71, R95). -/
def lookupOpcode (op : Byte) : Option Form := (opcodeTable.find? (fun r => r.opcode == op)).map Row.form

/-- Why bytes are not an instruction. -/
inductive DecodeError where
  /-- The first byte is one of the 105 the spec lists no instruction for (R95). -/
  | unlistedOpcode (op : Byte)
  /-- The bytes end before the instruction does. -/
  | truncated
deriving DecidableEq, Repr

/-- Takes the operand bytes of a form from the bytes after the opcode: the instruction and the bytes left. -/
def Form.parse : Form → List Byte → Except DecodeError (Instr × List Byte)
  | .f1 i, rest => .ok (i, rest)
  | .f2 k, b1 :: rest => .ok (k b1, rest)
  | .f3 k, b1 :: b2 :: rest => .ok (k (Machine.joinBytes b2 b1), rest)
  | _, _ => .error .truncated

/-- Decodes the first instruction of a byte string, lowest address first (R50, R70, R71): the instruction and the
bytes after it. -/
def decode : List Byte → Except DecodeError (Instr × List Byte)
  | [] => .error .truncated
  | op :: rest =>
    match lookupOpcode op with
    | some f => f.parse rest
    | none => .error (.unlistedOpcode op)

/-- The three bytes of a number of `nbits` bits, lowest byte first; every bit above `nbits` is 0. -/
def tableBytes (nbits w : Nat) : List Byte :=
  let v := w % 2 ^ nbits
  [BitVec.ofNat 8 v, BitVec.ofNat 8 (v / 256), BitVec.ofNat 8 (v / 65536)]

/-- The instruction the decoder reads from `nbits` bits of opcode-table numbering: bit 0 is the least significant
bit of the first byte. -/
def decodeTableWord (nbits w : Nat) : Option Instr :=
  match decode (tableBytes nbits w) with
  | .ok (i, _) => some i
  | .error _ => none

/-- The opcode byte of an instruction (R93). -/
def Instr.opcode : Instr → Byte
  | .ldaImm _ => 0xA9
  | .ldaZp _ => 0xA5
  | .ldaZpx _ => 0xB5
  | .ldaAbs _ => 0xAD
  | .ldaAbx _ => 0xBD
  | .ldaAby _ => 0xB9
  | .ldaIzx _ => 0xA1
  | .ldaIzy _ => 0xB1
  | .ldxImm _ => 0xA2
  | .ldxZp _ => 0xA6
  | .ldxZpy _ => 0xB6
  | .ldxAbs _ => 0xAE
  | .ldxAby _ => 0xBE
  | .ldyImm _ => 0xA0
  | .ldyZp _ => 0xA4
  | .ldyZpx _ => 0xB4
  | .ldyAbs _ => 0xAC
  | .ldyAbx _ => 0xBC
  | .staZp _ => 0x85
  | .staZpx _ => 0x95
  | .staAbs _ => 0x8D
  | .staAbx _ => 0x9D
  | .staAby _ => 0x99
  | .staIzx _ => 0x81
  | .staIzy _ => 0x91
  | .stxZp _ => 0x86
  | .stxZpy _ => 0x96
  | .stxAbs _ => 0x8E
  | .styZp _ => 0x84
  | .styZpx _ => 0x94
  | .styAbs _ => 0x8C
  | .tax => 0xAA
  | .tay => 0xA8
  | .txa => 0x8A
  | .tya => 0x98
  | .tsx => 0xBA
  | .txs => 0x9A
  | .pha => 0x48
  | .php => 0x08
  | .pla => 0x68
  | .plp => 0x28
  | .andImm _ => 0x29
  | .andZp _ => 0x25
  | .andZpx _ => 0x35
  | .andAbs _ => 0x2D
  | .andAbx _ => 0x3D
  | .andAby _ => 0x39
  | .andIzx _ => 0x21
  | .andIzy _ => 0x31
  | .eorImm _ => 0x49
  | .eorZp _ => 0x45
  | .eorZpx _ => 0x55
  | .eorAbs _ => 0x4D
  | .eorAbx _ => 0x5D
  | .eorAby _ => 0x59
  | .eorIzx _ => 0x41
  | .eorIzy _ => 0x51
  | .oraImm _ => 0x09
  | .oraZp _ => 0x05
  | .oraZpx _ => 0x15
  | .oraAbs _ => 0x0D
  | .oraAbx _ => 0x1D
  | .oraAby _ => 0x19
  | .oraIzx _ => 0x01
  | .oraIzy _ => 0x11
  | .bitZp _ => 0x24
  | .bitAbs _ => 0x2C
  | .adcImm _ => 0x69
  | .adcZp _ => 0x65
  | .adcZpx _ => 0x75
  | .adcAbs _ => 0x6D
  | .adcAbx _ => 0x7D
  | .adcAby _ => 0x79
  | .adcIzx _ => 0x61
  | .adcIzy _ => 0x71
  | .sbcImm _ => 0xE9
  | .sbcZp _ => 0xE5
  | .sbcZpx _ => 0xF5
  | .sbcAbs _ => 0xED
  | .sbcAbx _ => 0xFD
  | .sbcAby _ => 0xF9
  | .sbcIzx _ => 0xE1
  | .sbcIzy _ => 0xF1
  | .cmpImm _ => 0xC9
  | .cmpZp _ => 0xC5
  | .cmpZpx _ => 0xD5
  | .cmpAbs _ => 0xCD
  | .cmpAbx _ => 0xDD
  | .cmpAby _ => 0xD9
  | .cmpIzx _ => 0xC1
  | .cmpIzy _ => 0xD1
  | .cpxImm _ => 0xE0
  | .cpxZp _ => 0xE4
  | .cpxAbs _ => 0xEC
  | .cpyImm _ => 0xC0
  | .cpyZp _ => 0xC4
  | .cpyAbs _ => 0xCC
  | .incZp _ => 0xE6
  | .incZpx _ => 0xF6
  | .incAbs _ => 0xEE
  | .incAbx _ => 0xFE
  | .inx => 0xE8
  | .iny => 0xC8
  | .decZp _ => 0xC6
  | .decZpx _ => 0xD6
  | .decAbs _ => 0xCE
  | .decAbx _ => 0xDE
  | .dex => 0xCA
  | .dey => 0x88
  | .aslAcc => 0x0A
  | .aslZp _ => 0x06
  | .aslZpx _ => 0x16
  | .aslAbs _ => 0x0E
  | .aslAbx _ => 0x1E
  | .lsrAcc => 0x4A
  | .lsrZp _ => 0x46
  | .lsrZpx _ => 0x56
  | .lsrAbs _ => 0x4E
  | .lsrAbx _ => 0x5E
  | .rolAcc => 0x2A
  | .rolZp _ => 0x26
  | .rolZpx _ => 0x36
  | .rolAbs _ => 0x2E
  | .rolAbx _ => 0x3E
  | .rorAcc => 0x6A
  | .rorZp _ => 0x66
  | .rorZpx _ => 0x76
  | .rorAbs _ => 0x6E
  | .rorAbx _ => 0x7E
  | .jmpAbs _ => 0x4C
  | .jmpInd _ => 0x6C
  | .jsr _ => 0x20
  | .rts => 0x60
  | .bcc _ => 0x90
  | .bcs _ => 0xB0
  | .beq _ => 0xF0
  | .bmi _ => 0x30
  | .bne _ => 0xD0
  | .bpl _ => 0x10
  | .bvc _ => 0x50
  | .bvs _ => 0x70
  | .clc => 0x18
  | .cld => 0xD8
  | .cli => 0x58
  | .clv => 0xB8
  | .sec => 0x38
  | .sed => 0xF8
  | .sei => 0x78
  | .brk => 0x00
  | .nop => 0xEA
  | .rti => 0x40

/-- The operand bytes of an instruction, lowest address first (R50, R70). -/
def Instr.operandBytes : Instr → List Byte
  | .tax | .tay | .txa | .tya | .tsx | .txs | .pha | .php | .pla | .plp | .inx | .iny | .dex | .dey | .aslAcc
  | .lsrAcc | .rolAcc | .rorAcc | .rts | .clc | .cld | .cli | .clv | .sec | .sed | .sei | .brk | .nop | .rti => []
  | .ldaImm b | .ldaZp b | .ldaZpx b | .ldaIzx b | .ldaIzy b | .ldxImm b | .ldxZp b | .ldxZpy b | .ldyImm b
  | .ldyZp b | .ldyZpx b | .staZp b | .staZpx b | .staIzx b | .staIzy b | .stxZp b | .stxZpy b | .styZp b
  | .styZpx b | .andImm b | .andZp b | .andZpx b | .andIzx b | .andIzy b | .eorImm b | .eorZp b | .eorZpx b
  | .eorIzx b | .eorIzy b | .oraImm b | .oraZp b | .oraZpx b | .oraIzx b | .oraIzy b | .bitZp b | .adcImm b
  | .adcZp b | .adcZpx b | .adcIzx b | .adcIzy b | .sbcImm b | .sbcZp b | .sbcZpx b | .sbcIzx b | .sbcIzy b
  | .cmpImm b | .cmpZp b | .cmpZpx b | .cmpIzx b | .cmpIzy b | .cpxImm b | .cpxZp b | .cpyImm b | .cpyZp b
  | .incZp b | .incZpx b | .decZp b | .decZpx b | .aslZp b | .aslZpx b | .lsrZp b | .lsrZpx b | .rolZp b
  | .rolZpx b | .rorZp b | .rorZpx b | .bcc b | .bcs b | .beq b | .bmi b | .bne b | .bpl b | .bvc b | .bvs b => [b]
  | .ldaAbs w | .ldaAbx w | .ldaAby w | .ldxAbs w | .ldxAby w | .ldyAbs w | .ldyAbx w | .staAbs w | .staAbx w
  | .staAby w | .stxAbs w | .styAbs w | .andAbs w | .andAbx w | .andAby w | .eorAbs w | .eorAbx w | .eorAby w
  | .oraAbs w | .oraAbx w | .oraAby w | .bitAbs w | .adcAbs w | .adcAbx w | .adcAby w | .sbcAbs w | .sbcAbx w
  | .sbcAby w | .cmpAbs w | .cmpAbx w | .cmpAby w | .cpxAbs w | .cpyAbs w | .incAbs w | .incAbx w | .decAbs w
  | .decAbx w | .aslAbs w | .aslAbx w | .lsrAbs w | .lsrAbx w | .rolAbs w | .rolAbx w | .rorAbs w | .rorAbx w
  | .jmpAbs w | .jmpInd w | .jsr w => [Machine.loByte w, Machine.hiByte w]

/-- The bytes of an instruction, lowest address first (R70). -/
def encode (i : Instr) : List Byte := i.opcode :: i.operandBytes

end Sys2Proof
end

