-- ==== Sys2Proof/Machine/Fetch.lean ====
section
/-! DEFINITION. Reading the instruction at PC, and placing one there. -/

namespace Sys2Proof.Machine

/-- The fetch (R9, R14, R55): the opcode at PC, then as many operand bytes as its format has, in order, at addresses
modulo 65536 (R15); with the instruction it answers the state after those loads. It answers the opcode byte where
that byte is not an instruction (R95). Fetch reads the same memory as data accesses, at the time the instruction
executes (R58). -/
def fetch (s : State) : Except Byte (Instr × State) :=
  let op := s.load s.pc
  match lookupOpcode op.1 with
  | some (.f1 i) => .ok (i, op.2)
  | some (.f2 k) =>
    let b1 := op.2.load (s.pc + 1)
    .ok (k b1.1, b1.2)
  | some (.f3 k) =>
    let b1 := op.2.load (s.pc + 1)
    let b2 := b1.2.load (s.pc + 2)
    .ok (k (joinBytes b2.1 b1.1), b2.2)
  | none => .error op.1

/-- Why a step at a byte that is no instruction has no meaning, by the parameter ILLEGAL_OPCODE (R95). -/
def illegalOpcodeRefusal (s : State) (op : Byte) : Refusal :=
  match s.params.illegalOpcode with
  | .refuse => .unlistedOpcode op
  | .undocumented => .undocumentedOperation op

/-- Puts bytes into memory at an address and the ones after it, and RAM behind each that was a device's, so that a
fetch finds them. -/
def State.placeBytes (s : State) (addr : Word) : List Byte → State
  | [] => s
  | b :: rest =>
    let m : MemMap := if s.kindAt addr = .device then ⟨addr, addr, .ram⟩ :: s.params.memMap else s.params.memMap
    ({ s with params := { s.params with memMap := m } }.poke addr b).placeBytes (addr + 1) rest

/-- Puts an instruction where the next step fetches: its three bytes at PC, and no line that would be served
first (log 3). -/
def State.placeInstruction (s : State) (bytes : List Byte) : State :=
  { s with irqLine := false, nmiPending := false, resetLine := false }.placeBytes s.pc bytes

end Sys2Proof.Machine
end

