-- ==== Sys2Proof/Machine/Timing.lean ====
section
/-! DEFINITION. Cycle counts (`70_reset_and_hazards.md` R290 to R293): timing only. They feed the ghost count
`State.cycles`, which no architectural result depends on. -/

namespace Sys2Proof.Machine

/-- The cycles of an instruction when no page is crossed and no branch is taken (R291). -/
def baseCycles : Instr → Nat
  | .ldaImm _ | .ldxImm _ | .ldyImm _ | .tax | .tay | .txa | .tya | .tsx | .txs | .andImm _ | .eorImm _
  | .oraImm _ | .adcImm _ | .sbcImm _ | .cmpImm _ | .cpxImm _ | .cpyImm _ | .inx | .iny | .dex | .dey | .aslAcc
  | .lsrAcc | .rolAcc | .rorAcc | .bcc _ | .bcs _ | .beq _ | .bmi _ | .bne _ | .bpl _ | .bvc _ | .bvs _ | .clc
  | .cld | .cli | .clv | .sec | .sed | .sei | .nop => 2
  | .ldaZp _ | .ldxZp _ | .ldyZp _ | .staZp _ | .stxZp _ | .styZp _ | .pha | .php | .andZp _ | .eorZp _
  | .oraZp _ | .bitZp _ | .adcZp _ | .sbcZp _ | .cmpZp _ | .cpxZp _ | .cpyZp _ | .jmpAbs _ => 3
  | .ldaZpx _ | .ldaAbs _ | .ldaAbx _ | .ldaAby _ | .ldxZpy _ | .ldxAbs _ | .ldxAby _ | .ldyZpx _ | .ldyAbs _
  | .ldyAbx _ | .staZpx _ | .staAbs _ | .stxZpy _ | .stxAbs _ | .styZpx _ | .styAbs _ | .pla | .plp | .andZpx _
  | .andAbs _ | .andAbx _ | .andAby _ | .eorZpx _ | .eorAbs _ | .eorAbx _ | .eorAby _ | .oraZpx _ | .oraAbs _
  | .oraAbx _ | .oraAby _ | .bitAbs _ | .adcZpx _ | .adcAbs _ | .adcAbx _ | .adcAby _ | .sbcZpx _ | .sbcAbs _
  | .sbcAbx _ | .sbcAby _ | .cmpZpx _ | .cmpAbs _ | .cmpAbx _ | .cmpAby _ | .cpxAbs _ | .cpyAbs _ => 4
  | .ldaIzy _ | .staAbx _ | .staAby _ | .andIzy _ | .eorIzy _ | .oraIzy _ | .adcIzy _ | .sbcIzy _ | .cmpIzy _
  | .incZp _ | .decZp _ | .aslZp _ | .lsrZp _ | .rolZp _ | .rorZp _ | .jmpInd _ => 5
  | .ldaIzx _ | .staIzx _ | .staIzy _ | .andIzx _ | .eorIzx _ | .oraIzx _ | .adcIzx _ | .sbcIzx _ | .cmpIzx _
  | .incZpx _ | .incAbs _ | .decZpx _ | .decAbs _ | .aslZpx _ | .aslAbs _ | .lsrZpx _ | .lsrAbs _ | .rolZpx _
  | .rolAbs _ | .rorZpx _ | .rorAbs _ | .jsr _ | .rts | .rti => 6
  | .incAbx _ | .decAbx _ | .aslAbx _ | .lsrAbx _ | .rolAbx _ | .rorAbx _ | .brk => 7

/-- Adding an unsigned index to a base carries out of the low byte (R292). -/
def pageCrossed (base : Word) (index : Byte) : Bool := decide (256 ≤ (loByte base).toNat + index.toNat)

/-- The extra cycles of a taken branch (R293): 1, or 2 if the target's page is not that of the next instruction. -/
def branchCycles (taken : Bool) (off : Byte) (s : State) : Nat :=
  if taken then (if hiByte (branchTarget off s) = hiByte (s.pc + 2) then 1 else 2) else 0

/-- The cycles an instruction takes beyond `baseCycles` in a state (R291 to R293). -/
def extraCycles (i : Instr) (s : State) : Nat :=
  match i with
  | .ldaAbx w | .ldyAbx w | .andAbx w | .eorAbx w | .oraAbx w | .adcAbx w | .sbcAbx w | .cmpAbx w => (pageCrossed w s.x).toNat
  | .ldaAby w | .ldxAby w | .andAby w | .eorAby w | .oraAby w | .adcAby w | .sbcAby w | .cmpAby w => (pageCrossed w s.y).toNat
  | .ldaIzy b | .andIzy b | .eorIzy b | .oraIzy b | .adcIzy b | .sbcIzy b | .cmpIzy b => (pageCrossed (s.pointer b).1 s.y).toNat
  | .bcc off => branchCycles (!s.flagC) off s
  | .bcs off => branchCycles s.flagC off s
  | .beq off => branchCycles s.flagZ off s
  | .bmi off => branchCycles s.flagN off s
  | .bne off => branchCycles (!s.flagZ) off s
  | .bpl off => branchCycles (!s.flagN) off s
  | .bvc off => branchCycles (!s.flagV) off s
  | .bvs off => branchCycles s.flagV off s
  | .ldaImm _ | .ldaZp _ | .ldaZpx _ | .ldaAbs _ | .ldaIzx _ | .ldxImm _ | .ldxZp _ | .ldxZpy _ | .ldxAbs _
  | .ldyImm _ | .ldyZp _ | .ldyZpx _ | .ldyAbs _ | .staZp _ | .staZpx _ | .staAbs _ | .staAbx _ | .staAby _
  | .staIzx _ | .staIzy _ | .stxZp _ | .stxZpy _ | .stxAbs _ | .styZp _ | .styZpx _ | .styAbs _ | .tax | .tay
  | .txa | .tya | .tsx | .txs | .pha | .php | .pla | .plp | .andImm _ | .andZp _ | .andZpx _ | .andAbs _
  | .andIzx _ | .eorImm _ | .eorZp _ | .eorZpx _ | .eorAbs _ | .eorIzx _ | .oraImm _ | .oraZp _ | .oraZpx _
  | .oraAbs _ | .oraIzx _ | .bitZp _ | .bitAbs _ | .adcImm _ | .adcZp _ | .adcZpx _ | .adcAbs _ | .adcIzx _
  | .sbcImm _ | .sbcZp _ | .sbcZpx _ | .sbcAbs _ | .sbcIzx _ | .cmpImm _ | .cmpZp _ | .cmpZpx _ | .cmpAbs _
  | .cmpIzx _ | .cpxImm _ | .cpxZp _ | .cpxAbs _ | .cpyImm _ | .cpyZp _ | .cpyAbs _ | .incZp _ | .incZpx _
  | .incAbs _ | .incAbx _ | .inx | .iny | .decZp _ | .decZpx _ | .decAbs _ | .decAbx _ | .dex | .dey | .aslAcc
  | .aslZp _ | .aslZpx _ | .aslAbs _ | .aslAbx _ | .lsrAcc | .lsrZp _ | .lsrZpx _ | .lsrAbs _ | .lsrAbx _
  | .rolAcc | .rolZp _ | .rolZpx _ | .rolAbs _ | .rolAbx _ | .rorAcc | .rorZp _ | .rorZpx _ | .rorAbs _
  | .rorAbx _ | .jmpAbs _ | .jmpInd _ | .jsr _ | .rts | .clc | .cld | .cli | .clv | .sec | .sed | .sei | .brk
  | .nop | .rti => 0

/-- The cycles an instruction takes when it starts in a state (R291). -/
def instrCycles (i : Instr) (s : State) : Nat := baseCycles i + extraCycles i s

/-- Adds an instruction's cycles to the ghost count of the state it leads to (R290). -/
def chargeCycles (i : Instr) (s : State) : Result → Result
  | .next t => .next { t with cycles := t.cycles + instrCycles i s }
  | .fault f => .fault f
  | .refused r => .refused r

end Sys2Proof.Machine
end

