-- ==== Sys2Proof/Machine/Step.lean ====
section
/-! DEFINITION. One step of the machine: one whole instruction (`00_scope.md` R9), or what the boundary before it
serves instead (`60_exceptions.md` R236, R241). -/

namespace Sys2Proof.Machine

/-- One step: a boundary event if there is one; else fetch, decode and execute the instruction at PC. -/
def step (s : State) : Host.Outcome State Fault Refusal :=
  match s.boundaryEvent with
  | some t => .next t
  | none =>
    match fetch s with
    | .ok (i, t) => chargeCycles i t (exec i t)
    | .error op => .refused (illegalOpcodeRefusal s op)

/-- The state with an instruction stored where the next step fetches it (log 3). -/
def State.withFetchWord (s : State) (nbits w : Nat) : State := s.placeInstruction (tableBytes nbits w)

end Sys2Proof.Machine
end

