-- ==== Sys2Proof/Assembler.lean ====
section
/-! DEFINITION. The assembler's rules (`30_encoding.md` R97 to R102): which mode an operand selects, branch offsets,
LO and HI. The text of a line (spaces, comments, number notation) is not modelled (log 24). -/

namespace Sys2Proof

/-- An operand as an assembler reads it: its shape (R72, column "syntax") and the value of its expression. -/
inductive Operand where
  | absent
  | accumulator
  | immediate (n : Nat)
  | address (n : Nat)
  | addressX (n : Nat)
  | addressY (n : Nat)
  | indirect (n : Nat)
  | indirectX (n : Nat)
  | indirectY (n : Nat)
deriving DecidableEq, Repr

/-- `LO expr` (R100). -/
def Operand.lo (w : Word) : Byte := Machine.loByte w

/-- `HI expr` (R100). -/
def Operand.hi (w : Word) : Byte := Machine.hiByte w

/-- The zero page form if the value is a zero page address and the mnemonic has it, else the absolute form (R98). -/
def selectZeroPage (m : Mnemonic) (n : Nat) (short long : Mode) : Mode :=
  if n < 256 && m.modes.contains short then short else long

/-- The mode an operand selects and its value (R98); a branch is written with its target (R99). -/
def selectMode (m : Mnemonic) : Operand → Mode × Nat
  | .absent => (.imp, 0)
  | .accumulator => (.acc, 0)
  | .immediate n => (.imm, n)
  | .address n => if m.modes.contains .rel then (.rel, n) else (selectZeroPage m n .zp .abs, n)
  | .addressX n => (selectZeroPage m n .zpx .abx, n)
  | .addressY n => (selectZeroPage m n .zpy .aby, n)
  | .indirect n => (.ind, n)
  | .indirectX n => (.izx, n)
  | .indirectY n => (.izy, n)

/-- The offset byte of a branch at `addr` to `target` (R99): `u8(target - (addr + 2))`, refused outside
`addr - 126 .. addr + 129`. -/
def branchOffset (addr target : Word) : Option Byte :=
  let off := Machine.loByte (target - (addr + 2))
  if Machine.sext16 off = target - (addr + 2) then some off else none

/-- The instruction a form makes of an operand value. -/
def Form.build : Form → Nat → Instr
  | .f1 i, _ => i
  | .f2 k, n => k (BitVec.ofNat 8 n)
  | .f3 k, n => k (BitVec.ofNat 16 n)

/-- The instruction written as a line, if the line is well formed: its row is found by mnemonic and mode (R93). -/
def Line.toInstr (l : Line) : Option Instr :=
  if l.wellFormed then
    (opcodeTable.find? (fun r => (r.form.build 0).mnemonic == l.mnemonic && (r.form.build 0).mode == l.mode)).map
      (fun r => r.form.build l.operand)
  else none

/-- The instruction an assembler makes of a mnemonic and an operand at an address (R98, R99). -/
def assembleInstr (addr : Word) (m : Mnemonic) (o : Operand) : Option Instr :=
  let (mode, n) := selectMode m o
  match mode with
  | .rel => (branchOffset addr (BitVec.ofNat 16 n)).bind (fun b => Line.toInstr ⟨m, .rel, b.toNat⟩)
  | _ => Line.toInstr ⟨m, mode, n⟩

/-- The bytes an assembler makes of a mnemonic and an operand at an address (R97 to R99). -/
def assemble (addr : Word) (m : Mnemonic) (o : Operand) : Option (List Byte) := (assembleInstr addr m o).map encode

end Sys2Proof
end

