-- ==== Sys2Proof/Machine/Halt.lean ====
section
/-! DEFINITION. The end of a run (`70_reset_and_hazards.md` R295): the machine never stops by itself, and a harness
ends a run by the parameter HALT_CONDITION. -/

namespace Sys2Proof.Machine

/-- The instruction the next step would fetch from memory, where no byte of it is a device's. -/
def State.instrAtPc (s : State) : Option Instr :=
  match fetch s with
  | .ok (i, t) => if t.bus = s.bus then some i else none
  | .error _ => none

/-- The PC an instruction leads to, if it answers a next state. -/
def pcAfter (i : Instr) (s : State) : Option Word :=
  match exec i s with
  | .next t => some t.pc
  | .fault f => nomatch f
  | .refused _ => none

/-- The run has ended by one convention (R295). Execution of BRK counts where the boundary serves nothing first. -/
def State.haltedBy (s : State) : HaltCondition → Bool
  | .selfJump => s.instrAtPc == some (.jmpAbs s.pc)
  | .selfBranch => s.instrAtPc.any (fun i => i.mode == .rel && pcAfter i s == some s.pc)
  | .pcAt addr => s.pc == addr
  | .brk => s.boundaryEvent.isNone && s.instrAtPc == some .brk

/-- The run has ended by the parameter HALT_CONDITION. -/
def State.halted (s : State) : Bool := s.params.haltConditions.any s.haltedBy

/-- How a run of the model ends, or has not ended. -/
inductive RunEnd where
  /-- HALT_CONDITION holds in this state: the result of the run. -/
  | ended (s : State)
  /-- The steps allowed are used up. -/
  | unfinished (s : State)
  /-- A step has no meaning: "not modelled", never a result (R295). -/
  | refused (r : Refusal)
deriving DecidableEq, Repr

/-- A run of at most `n` steps, ended by HALT_CONDITION. -/
def runUntilHalt : Nat → State → RunEnd
  | 0, s => if s.halted then .ended s else .unfinished s
  | n + 1, s =>
    if s.halted then .ended s
    else
      match step s with
      | .next t => runUntilHalt n t
      | .fault f => nomatch f
      | .refused r => .refused r

end Sys2Proof.Machine
end

