-- ==== Sys2Proof/Safety.lean ====
section
/-! DEFINITION. The terms the statements use: the invariant of the machine, what stores do, when a step executes
an instruction, and the end of a run. -/

namespace Sys2Proof.Machine

/-- The invariant every step keeps: memory is in its canonical form (R40). -/
def CanonicalMemory (s : State) : Prop := s.mem.wf = true

/-- No line is served at this boundary, so the step executes the instruction at PC (R236, R241, R274). -/
def NoBoundaryEvent (s : State) : Prop :=
  s.resetLine = false ∧ s.nmiPending = false ∧ (s.irqLine = false ∨ s.flagI = true)

/-- The byte an address has after a list of writes, in their order, if it was `old` before. -/
def lastWritten (addr : Word) (old : Byte) (writes : List (Word × Byte)) : Byte :=
  writes.foldl (fun v w => if w.1 = addr then w.2 else v) old

/-- The record of device accesses after a list of writes, in their order (R54, R55). -/
def recordWrites (s : State) (writes : List (Word × Byte)) : List BusAccess :=
  writes.foldl (fun bus w => if s.kindAt w.1 = .device then .write w.1 w.2 :: bus else bus) s.bus

/-- From `s` to `t` exactly these bytes are stored, in this order (R46, R44): a byte of RAM reads the last that was
stored to it, every other byte of memory, ROM and the stores to it included, reads as before, and the record of
device accesses grows by the stores to device addresses. -/
def Stores (s t : State) (writes : List (Word × Byte)) : Prop :=
  (∀ b : Word, t.mem.read b = if s.kindAt b = .ram then lastWritten b (s.mem.read b) writes else s.mem.read b) ∧
    t.bus = recordWrites s writes

/-- From `s` to `t` one byte is stored. -/
def StoresByte (s t : State) (addr : Word) (v : Byte) : Prop := Stores s t [(addr, v)]

/-- The two bytes pushed for a return address, high byte first (R183). -/
def returnBytes (s : State) (ret : Word) : List (Word × Byte) :=
  [(stackAddr s.sp, hiByte ret), (stackAddr (s.sp - 1), loByte ret)]

/-- The three bytes pushed when an exception is taken: the return address, high byte first, then the status (R242). -/
def trapBytes (s : State) (ret : Word) (status : Byte) : List (Word × Byte) :=
  returnBytes s ret ++ [(stackAddr (s.sp - 2), status)]

/-- The three bytes above S, where a trap's saved status and return address lie, read the same under the same
parameters (R242). -/
def SameSavedBytes (t u : State) : Prop :=
  u.params = t.params ∧ u.sp = t.sp ∧ u.mem.read (stackAddr (t.sp + 1)) = t.mem.read (stackAddr (t.sp + 1)) ∧
    u.mem.read (stackAddr (t.sp + 2)) = t.mem.read (stackAddr (t.sp + 2)) ∧
    u.mem.read (stackAddr (t.sp + 3)) = t.mem.read (stackAddr (t.sp + 3))

/-- The three bytes a trap pushes to are RAM, so that what is pushed can be pulled (R44). -/
def StackIsRam (s : State) : Prop :=
  s.kindAt (stackAddr s.sp) = .ram ∧ s.kindAt (stackAddr (s.sp - 1)) = .ram ∧ s.kindAt (stackAddr (s.sp - 2)) = .ram

/-- No byte an instruction at PC can have is a device's. -/
def CodeIsMemory (s : State) : Prop :=
  s.kindAt s.pc ≠ .device ∧ s.kindAt (s.pc + 1) ≠ .device ∧ s.kindAt (s.pc + 2) ≠ .device

/-- `n` loads from an address and the ones after it, in order: the bytes, and the state after them. -/
def loadBytes : Nat → Word → State → List Byte × State
  | 0, _, s => ([], s)
  | n + 1, addr, s => (s.read addr :: (loadBytes n (addr + 1) (s.touch addr)).1, (loadBytes n (addr + 1) (s.touch addr)).2)

/-- The end of a run by the convention of R295: the instruction at PC is a JMP Absolute to its own address. -/
def AtSelfJump (s : State) : Prop :=
  CodeIsMemory s ∧ s.mem.read s.pc = 0x4C ∧ s.mem.read (s.pc + 1) = loByte s.pc ∧ s.mem.read (s.pc + 2) = hiByte s.pc

/-- ADC and SBC: the two instructions D concerns (R145). -/
def UsesDecimalMode (i : Instr) : Prop := i.mnemonic = .adc ∨ i.mnemonic = .sbc

/-- Under these parameters and this D the spec has ADC and SBC refused (R145). -/
def DecimalRefused (i : Instr) (s : State) : Prop :=
  UsesDecimalMode i ∧ s.flagD = true ∧ s.params.decimalMode = .refuse

end Sys2Proof.Machine
end

