-- ==== Sys2Proof/Certificates/Slice0/Obligations.lean ====
section
/-! DEFINITION. The statements for the provers, from the numbered rules of spec/. -/

open Sys2Proof Sys2Proof.Machine

/-- LDA, LDX and LDY in each of their modes (R110, R111, R112): encoding, cycles, and the next state. That a read or
store of a device address is recorded, and one to ROM ignored, is the model's choice (logs 15 and 26). -/
def Obligations.LoadsCopyTheOperandAndSetZN : Prop :=
  ∀ (s : State) (b : Byte) (w : Word),
    (encode (.ldaImm b) = [0xA9, b] ∧ instrCycles (.ldaImm b) s = 2 ∧
      (let v : Byte := b
       exec (.ldaImm b) s = .next { s with a := v, flagZ := v == 0, flagN := v.getLsbD 7, pc := s.pc + 2 })) ∧
    (encode (.ldaZp b) = [0xA5, b] ∧ instrCycles (.ldaZp b) s = 3 ∧
      (let v : Byte := s.read (eaZp b)
       exec (.ldaZp b) s = .next { s.touch (eaZp b) with
           a := v, flagZ := v == 0, flagN := v.getLsbD 7, pc := s.pc + 2 })) ∧
    (encode (.ldaZpx b) = [0xB5, b] ∧ instrCycles (.ldaZpx b) s = 4 ∧
      (let v : Byte := s.read (eaZpx b s)
       exec (.ldaZpx b) s = .next { s.touch (eaZpx b s) with
           a := v, flagZ := v == 0, flagN := v.getLsbD 7, pc := s.pc + 2 })) ∧
    (encode (.ldaAbs w) = [0xAD, loByte w, hiByte w] ∧ instrCycles (.ldaAbs w) s = 4 ∧
      (let v : Byte := s.read w
       exec (.ldaAbs w) s = .next { s.touch w with a := v, flagZ := v == 0, flagN := v.getLsbD 7, pc := s.pc + 3 })) ∧
    (encode (.ldaAbx w) = [0xBD, loByte w, hiByte w] ∧ instrCycles (.ldaAbx w) s = 4 + (pageCrossed w s.x).toNat ∧
      (let v : Byte := s.read (eaAbx w s)
       exec (.ldaAbx w) s = .next { s.touch (eaAbx w s) with
           a := v, flagZ := v == 0, flagN := v.getLsbD 7, pc := s.pc + 3 })) ∧
    (encode (.ldaAby w) = [0xB9, loByte w, hiByte w] ∧ instrCycles (.ldaAby w) s = 4 + (pageCrossed w s.y).toNat ∧
      (let v : Byte := s.read (eaAby w s)
       exec (.ldaAby w) s = .next { s.touch (eaAby w s) with
           a := v, flagZ := v == 0, flagN := v.getLsbD 7, pc := s.pc + 3 })) ∧
    (encode (.ldaIzx b) = [0xA1, b] ∧ instrCycles (.ldaIzx b) s = 6 ∧
      (let p := eaIzx b s
       let v : Byte := p.2.read p.1
       exec (.ldaIzx b) s = .next { p.2.touch p.1 with
           a := v, flagZ := v == 0, flagN := v.getLsbD 7, pc := s.pc + 2 })) ∧
    (encode (.ldaIzy b) = [0xB1, b] ∧ instrCycles (.ldaIzy b) s = 5 + (pageCrossed (s.pointer b).1 s.y).toNat ∧
      (let p := eaIzy b s
       let v : Byte := p.2.read p.1
       exec (.ldaIzy b) s = .next { p.2.touch p.1 with
           a := v, flagZ := v == 0, flagN := v.getLsbD 7, pc := s.pc + 2 })) ∧
    (encode (.ldxImm b) = [0xA2, b] ∧ instrCycles (.ldxImm b) s = 2 ∧
      (let v : Byte := b
       exec (.ldxImm b) s = .next { s with x := v, flagZ := v == 0, flagN := v.getLsbD 7, pc := s.pc + 2 })) ∧
    (encode (.ldxZp b) = [0xA6, b] ∧ instrCycles (.ldxZp b) s = 3 ∧
      (let v : Byte := s.read (eaZp b)
       exec (.ldxZp b) s = .next { s.touch (eaZp b) with
           x := v, flagZ := v == 0, flagN := v.getLsbD 7, pc := s.pc + 2 })) ∧
    (encode (.ldxZpy b) = [0xB6, b] ∧ instrCycles (.ldxZpy b) s = 4 ∧
      (let v : Byte := s.read (eaZpy b s)
       exec (.ldxZpy b) s = .next { s.touch (eaZpy b s) with
           x := v, flagZ := v == 0, flagN := v.getLsbD 7, pc := s.pc + 2 })) ∧
    (encode (.ldxAbs w) = [0xAE, loByte w, hiByte w] ∧ instrCycles (.ldxAbs w) s = 4 ∧
      (let v : Byte := s.read w
       exec (.ldxAbs w) s = .next { s.touch w with x := v, flagZ := v == 0, flagN := v.getLsbD 7, pc := s.pc + 3 })) ∧
    (encode (.ldxAby w) = [0xBE, loByte w, hiByte w] ∧ instrCycles (.ldxAby w) s = 4 + (pageCrossed w s.y).toNat ∧
      (let v : Byte := s.read (eaAby w s)
       exec (.ldxAby w) s = .next { s.touch (eaAby w s) with
           x := v, flagZ := v == 0, flagN := v.getLsbD 7, pc := s.pc + 3 })) ∧
    (encode (.ldyImm b) = [0xA0, b] ∧ instrCycles (.ldyImm b) s = 2 ∧
      (let v : Byte := b
       exec (.ldyImm b) s = .next { s with y := v, flagZ := v == 0, flagN := v.getLsbD 7, pc := s.pc + 2 })) ∧
    (encode (.ldyZp b) = [0xA4, b] ∧ instrCycles (.ldyZp b) s = 3 ∧
      (let v : Byte := s.read (eaZp b)
       exec (.ldyZp b) s = .next { s.touch (eaZp b) with
           y := v, flagZ := v == 0, flagN := v.getLsbD 7, pc := s.pc + 2 })) ∧
    (encode (.ldyZpx b) = [0xB4, b] ∧ instrCycles (.ldyZpx b) s = 4 ∧
      (let v : Byte := s.read (eaZpx b s)
       exec (.ldyZpx b) s = .next { s.touch (eaZpx b s) with
           y := v, flagZ := v == 0, flagN := v.getLsbD 7, pc := s.pc + 2 })) ∧
    (encode (.ldyAbs w) = [0xAC, loByte w, hiByte w] ∧ instrCycles (.ldyAbs w) s = 4 ∧
      (let v : Byte := s.read w
       exec (.ldyAbs w) s = .next { s.touch w with y := v, flagZ := v == 0, flagN := v.getLsbD 7, pc := s.pc + 3 })) ∧
    (encode (.ldyAbx w) = [0xBC, loByte w, hiByte w] ∧ instrCycles (.ldyAbx w) s = 4 + (pageCrossed w s.x).toNat ∧
      (let v : Byte := s.read (eaAbx w s)
       exec (.ldyAbx w) s = .next { s.touch (eaAbx w s) with
           y := v, flagZ := v == 0, flagN := v.getLsbD 7, pc := s.pc + 3 }))

/-- STA, STX and STY in each of their modes (R113, R114, R115). That a read or store of a device address is recorded,
and one to ROM ignored, is the model's choice (logs 15 and 26). -/
def Obligations.StoresWriteOneByteAndNothingElse : Prop :=
  ∀ (s : State) (b : Byte) (w : Word),
    (encode (.staZp b) = [0x85, b] ∧ instrCycles (.staZp b) s = 3 ∧
      (∃ t, exec (.staZp b) s = .next t ∧ t = { s with mem := t.mem, bus := t.bus, pc := s.pc + 2 } ∧
        StoresByte s t (eaZp b) s.a)) ∧
    (encode (.staZpx b) = [0x95, b] ∧ instrCycles (.staZpx b) s = 4 ∧
      (∃ t, exec (.staZpx b) s = .next t ∧ t = { s with mem := t.mem, bus := t.bus, pc := s.pc + 2 } ∧
        StoresByte s t (eaZpx b s) s.a)) ∧
    (encode (.staAbs w) = [0x8D, loByte w, hiByte w] ∧ instrCycles (.staAbs w) s = 4 ∧
      (∃ t, exec (.staAbs w) s = .next t ∧ t = { s with mem := t.mem, bus := t.bus, pc := s.pc + 3 } ∧
        StoresByte s t w s.a)) ∧
    (encode (.staAbx w) = [0x9D, loByte w, hiByte w] ∧ instrCycles (.staAbx w) s = 5 ∧
      (∃ t, exec (.staAbx w) s = .next t ∧ t = { s with mem := t.mem, bus := t.bus, pc := s.pc + 3 } ∧
        StoresByte s t (eaAbx w s) s.a)) ∧
    (encode (.staAby w) = [0x99, loByte w, hiByte w] ∧ instrCycles (.staAby w) s = 5 ∧
      (∃ t, exec (.staAby w) s = .next t ∧ t = { s with mem := t.mem, bus := t.bus, pc := s.pc + 3 } ∧
        StoresByte s t (eaAby w s) s.a)) ∧
    (encode (.staIzx b) = [0x81, b] ∧ instrCycles (.staIzx b) s = 6 ∧
      (let p := eaIzx b s
       ∃ t, exec (.staIzx b) s = .next t ∧ t = { p.2 with mem := t.mem, bus := t.bus, pc := s.pc + 2 } ∧
        StoresByte p.2 t p.1 s.a)) ∧
    (encode (.staIzy b) = [0x91, b] ∧ instrCycles (.staIzy b) s = 6 ∧
      (let p := eaIzy b s
       ∃ t, exec (.staIzy b) s = .next t ∧ t = { p.2 with mem := t.mem, bus := t.bus, pc := s.pc + 2 } ∧
        StoresByte p.2 t p.1 s.a)) ∧
    (encode (.stxZp b) = [0x86, b] ∧ instrCycles (.stxZp b) s = 3 ∧
      (∃ t, exec (.stxZp b) s = .next t ∧ t = { s with mem := t.mem, bus := t.bus, pc := s.pc + 2 } ∧
        StoresByte s t (eaZp b) s.x)) ∧
    (encode (.stxZpy b) = [0x96, b] ∧ instrCycles (.stxZpy b) s = 4 ∧
      (∃ t, exec (.stxZpy b) s = .next t ∧ t = { s with mem := t.mem, bus := t.bus, pc := s.pc + 2 } ∧
        StoresByte s t (eaZpy b s) s.x)) ∧
    (encode (.stxAbs w) = [0x8E, loByte w, hiByte w] ∧ instrCycles (.stxAbs w) s = 4 ∧
      (∃ t, exec (.stxAbs w) s = .next t ∧ t = { s with mem := t.mem, bus := t.bus, pc := s.pc + 3 } ∧
        StoresByte s t w s.x)) ∧
    (encode (.styZp b) = [0x84, b] ∧ instrCycles (.styZp b) s = 3 ∧
      (∃ t, exec (.styZp b) s = .next t ∧ t = { s with mem := t.mem, bus := t.bus, pc := s.pc + 2 } ∧
        StoresByte s t (eaZp b) s.y)) ∧
    (encode (.styZpx b) = [0x94, b] ∧ instrCycles (.styZpx b) s = 4 ∧
      (∃ t, exec (.styZpx b) s = .next t ∧ t = { s with mem := t.mem, bus := t.bus, pc := s.pc + 2 } ∧
        StoresByte s t (eaZpx b s) s.y)) ∧
    (encode (.styAbs w) = [0x8C, loByte w, hiByte w] ∧ instrCycles (.styAbs w) s = 4 ∧
      (∃ t, exec (.styAbs w) s = .next t ∧ t = { s with mem := t.mem, bus := t.bus, pc := s.pc + 3 } ∧
        StoresByte s t w s.y))

/-- The register transfers (R120 to R125); TXS sets no flag. -/
def Obligations.TransfersCopyRegisters : Prop :=
  ∀ (s : State),
    (encode .tax = [0xAA] ∧ instrCycles .tax s = 2 ∧
      (let v : Byte := s.a
       exec .tax s = .next { s with x := v, flagZ := v == 0, flagN := v.getLsbD 7, pc := s.pc + 1 })) ∧
    (encode .tay = [0xA8] ∧ instrCycles .tay s = 2 ∧
      (let v : Byte := s.a
       exec .tay s = .next { s with y := v, flagZ := v == 0, flagN := v.getLsbD 7, pc := s.pc + 1 })) ∧
    (encode .txa = [0x8A] ∧ instrCycles .txa s = 2 ∧
      (let v : Byte := s.x
       exec .txa s = .next { s with a := v, flagZ := v == 0, flagN := v.getLsbD 7, pc := s.pc + 1 })) ∧
    (encode .tya = [0x98] ∧ instrCycles .tya s = 2 ∧
      (let v : Byte := s.y
       exec .tya s = .next { s with a := v, flagZ := v == 0, flagN := v.getLsbD 7, pc := s.pc + 1 })) ∧
    (encode .tsx = [0xBA] ∧ instrCycles .tsx s = 2 ∧
      (let v : Byte := s.sp
       exec .tsx s = .next { s with x := v, flagZ := v == 0, flagN := v.getLsbD 7, pc := s.pc + 1 })) ∧
    (encode .txs = [0x9A] ∧ instrCycles .txs s = 2 ∧ exec .txs s = .next { s with sp := s.x, pc := s.pc + 1 })

/-- PHA and PHP (R126, R127). That a read or store of a device address is recorded, and one to ROM ignored, is the
model's choice (logs 15 and 26). -/
def Obligations.PhaAndPhpPushOneByte : Prop :=
  ∀ (s : State),
    (encode .pha = [0x48] ∧ instrCycles .pha s = 3 ∧
      ∃ t, exec .pha s = .next t ∧ t = { s with mem := t.mem, bus := t.bus, sp := s.sp - 1, pc := s.pc + 1 } ∧
        StoresByte s t (stackAddr s.sp) (s.a)) ∧
    (encode .php = [0x08] ∧ instrCycles .php s = 3 ∧
      ∃ t, exec .php s = .next t ∧ t = { s with mem := t.mem, bus := t.bus, sp := s.sp - 1, pc := s.pc + 1 } ∧
        StoresByte s t (stackAddr s.sp) (s.packP (match s.params.phpPushedB with | .live => s.flagB | .one => true)))

/-- PLA and PLP (R128, R129). Each flag comes from the bit that P_LAYOUT gives it: 7 6 4 3 2 1 0 for N V B D I Z C by
default. That a read or store of a device address is recorded, and one to ROM ignored, is the model's choice (logs
15 and 26). -/
def Obligations.PlaAndPlpPullOneByte : Prop :=
  ∀ (s : State),
    (let v := s.read (stackAddr (s.sp + 1))
     let u := s.touch (stackAddr (s.sp + 1))
     let l := s.params.pLayout
     (encode .pla = [0x68] ∧ instrCycles .pla s = 4 ∧
       exec .pla s = .next { u with a := v, flagZ := v == 0, flagN := v.getLsbD 7, sp := s.sp + 1, pc := s.pc + 1 }) ∧
     (encode .plp = [0x28] ∧ instrCycles .plp s = 4 ∧
       exec .plp s = .next
         { u with
             flagN := v.getLsbD l.n, flagV := v.getLsbD l.v, flagB := v.getLsbD l.b, flagD := v.getLsbD l.d,
             flagI := v.getLsbD l.i, flagZ := v.getLsbD l.z, flagC := v.getLsbD l.c, sp := s.sp + 1,
             pc := s.pc + 1 }))

/-- AND, EOR and ORA in each of their modes (R135, R136, R137). That a read or store of a device address is recorded,
and one to ROM ignored, is the model's choice (logs 15 and 26). -/
def Obligations.LogicalOperationsCombineBitByBit : Prop :=
  ∀ (s : State) (b : Byte) (w : Word),
    (encode (.andImm b) = [0x29, b] ∧ instrCycles (.andImm b) s = 2 ∧
      (let v : Byte := s.a &&& b
       exec (.andImm b) s = .next { s with a := v, flagZ := v == 0, flagN := v.getLsbD 7, pc := s.pc + 2 })) ∧
    (encode (.andZp b) = [0x25, b] ∧ instrCycles (.andZp b) s = 3 ∧
      (let v : Byte := s.a &&& s.read (eaZp b)
       exec (.andZp b) s = .next { s.touch (eaZp b) with
           a := v, flagZ := v == 0, flagN := v.getLsbD 7, pc := s.pc + 2 })) ∧
    (encode (.andZpx b) = [0x35, b] ∧ instrCycles (.andZpx b) s = 4 ∧
      (let v : Byte := s.a &&& s.read (eaZpx b s)
       exec (.andZpx b) s = .next { s.touch (eaZpx b s) with
           a := v, flagZ := v == 0, flagN := v.getLsbD 7, pc := s.pc + 2 })) ∧
    (encode (.andAbs w) = [0x2D, loByte w, hiByte w] ∧ instrCycles (.andAbs w) s = 4 ∧
      (let v : Byte := s.a &&& s.read w
       exec (.andAbs w) s = .next { s.touch w with a := v, flagZ := v == 0, flagN := v.getLsbD 7, pc := s.pc + 3 })) ∧
    (encode (.andAbx w) = [0x3D, loByte w, hiByte w] ∧ instrCycles (.andAbx w) s = 4 + (pageCrossed w s.x).toNat ∧
      (let v : Byte := s.a &&& s.read (eaAbx w s)
       exec (.andAbx w) s = .next { s.touch (eaAbx w s) with
           a := v, flagZ := v == 0, flagN := v.getLsbD 7, pc := s.pc + 3 })) ∧
    (encode (.andAby w) = [0x39, loByte w, hiByte w] ∧ instrCycles (.andAby w) s = 4 + (pageCrossed w s.y).toNat ∧
      (let v : Byte := s.a &&& s.read (eaAby w s)
       exec (.andAby w) s = .next { s.touch (eaAby w s) with
           a := v, flagZ := v == 0, flagN := v.getLsbD 7, pc := s.pc + 3 })) ∧
    (encode (.andIzx b) = [0x21, b] ∧ instrCycles (.andIzx b) s = 6 ∧
      (let p := eaIzx b s
       let v : Byte := s.a &&& p.2.read p.1
       exec (.andIzx b) s = .next { p.2.touch p.1 with
           a := v, flagZ := v == 0, flagN := v.getLsbD 7, pc := s.pc + 2 })) ∧
    (encode (.andIzy b) = [0x31, b] ∧ instrCycles (.andIzy b) s = 5 + (pageCrossed (s.pointer b).1 s.y).toNat ∧
      (let p := eaIzy b s
       let v : Byte := s.a &&& p.2.read p.1
       exec (.andIzy b) s = .next { p.2.touch p.1 with
           a := v, flagZ := v == 0, flagN := v.getLsbD 7, pc := s.pc + 2 })) ∧
    (encode (.eorImm b) = [0x49, b] ∧ instrCycles (.eorImm b) s = 2 ∧
      (let v : Byte := s.a ^^^ b
       exec (.eorImm b) s = .next { s with a := v, flagZ := v == 0, flagN := v.getLsbD 7, pc := s.pc + 2 })) ∧
    (encode (.eorZp b) = [0x45, b] ∧ instrCycles (.eorZp b) s = 3 ∧
      (let v : Byte := s.a ^^^ s.read (eaZp b)
       exec (.eorZp b) s = .next { s.touch (eaZp b) with
           a := v, flagZ := v == 0, flagN := v.getLsbD 7, pc := s.pc + 2 })) ∧
    (encode (.eorZpx b) = [0x55, b] ∧ instrCycles (.eorZpx b) s = 4 ∧
      (let v : Byte := s.a ^^^ s.read (eaZpx b s)
       exec (.eorZpx b) s = .next { s.touch (eaZpx b s) with
           a := v, flagZ := v == 0, flagN := v.getLsbD 7, pc := s.pc + 2 })) ∧
    (encode (.eorAbs w) = [0x4D, loByte w, hiByte w] ∧ instrCycles (.eorAbs w) s = 4 ∧
      (let v : Byte := s.a ^^^ s.read w
       exec (.eorAbs w) s = .next { s.touch w with a := v, flagZ := v == 0, flagN := v.getLsbD 7, pc := s.pc + 3 })) ∧
    (encode (.eorAbx w) = [0x5D, loByte w, hiByte w] ∧ instrCycles (.eorAbx w) s = 4 + (pageCrossed w s.x).toNat ∧
      (let v : Byte := s.a ^^^ s.read (eaAbx w s)
       exec (.eorAbx w) s = .next { s.touch (eaAbx w s) with
           a := v, flagZ := v == 0, flagN := v.getLsbD 7, pc := s.pc + 3 })) ∧
    (encode (.eorAby w) = [0x59, loByte w, hiByte w] ∧ instrCycles (.eorAby w) s = 4 + (pageCrossed w s.y).toNat ∧
      (let v : Byte := s.a ^^^ s.read (eaAby w s)
       exec (.eorAby w) s = .next { s.touch (eaAby w s) with
           a := v, flagZ := v == 0, flagN := v.getLsbD 7, pc := s.pc + 3 })) ∧
    (encode (.eorIzx b) = [0x41, b] ∧ instrCycles (.eorIzx b) s = 6 ∧
      (let p := eaIzx b s
       let v : Byte := s.a ^^^ p.2.read p.1
       exec (.eorIzx b) s = .next { p.2.touch p.1 with
           a := v, flagZ := v == 0, flagN := v.getLsbD 7, pc := s.pc + 2 })) ∧
    (encode (.eorIzy b) = [0x51, b] ∧ instrCycles (.eorIzy b) s = 5 + (pageCrossed (s.pointer b).1 s.y).toNat ∧
      (let p := eaIzy b s
       let v : Byte := s.a ^^^ p.2.read p.1
       exec (.eorIzy b) s = .next { p.2.touch p.1 with
           a := v, flagZ := v == 0, flagN := v.getLsbD 7, pc := s.pc + 2 })) ∧
    (encode (.oraImm b) = [0x09, b] ∧ instrCycles (.oraImm b) s = 2 ∧
      (let v : Byte := s.a ||| b
       exec (.oraImm b) s = .next { s with a := v, flagZ := v == 0, flagN := v.getLsbD 7, pc := s.pc + 2 })) ∧
    (encode (.oraZp b) = [0x05, b] ∧ instrCycles (.oraZp b) s = 3 ∧
      (let v : Byte := s.a ||| s.read (eaZp b)
       exec (.oraZp b) s = .next { s.touch (eaZp b) with
           a := v, flagZ := v == 0, flagN := v.getLsbD 7, pc := s.pc + 2 })) ∧
    (encode (.oraZpx b) = [0x15, b] ∧ instrCycles (.oraZpx b) s = 4 ∧
      (let v : Byte := s.a ||| s.read (eaZpx b s)
       exec (.oraZpx b) s = .next { s.touch (eaZpx b s) with
           a := v, flagZ := v == 0, flagN := v.getLsbD 7, pc := s.pc + 2 })) ∧
    (encode (.oraAbs w) = [0x0D, loByte w, hiByte w] ∧ instrCycles (.oraAbs w) s = 4 ∧
      (let v : Byte := s.a ||| s.read w
       exec (.oraAbs w) s = .next { s.touch w with a := v, flagZ := v == 0, flagN := v.getLsbD 7, pc := s.pc + 3 })) ∧
    (encode (.oraAbx w) = [0x1D, loByte w, hiByte w] ∧ instrCycles (.oraAbx w) s = 4 + (pageCrossed w s.x).toNat ∧
      (let v : Byte := s.a ||| s.read (eaAbx w s)
       exec (.oraAbx w) s = .next { s.touch (eaAbx w s) with
           a := v, flagZ := v == 0, flagN := v.getLsbD 7, pc := s.pc + 3 })) ∧
    (encode (.oraAby w) = [0x19, loByte w, hiByte w] ∧ instrCycles (.oraAby w) s = 4 + (pageCrossed w s.y).toNat ∧
      (let v : Byte := s.a ||| s.read (eaAby w s)
       exec (.oraAby w) s = .next { s.touch (eaAby w s) with
           a := v, flagZ := v == 0, flagN := v.getLsbD 7, pc := s.pc + 3 })) ∧
    (encode (.oraIzx b) = [0x01, b] ∧ instrCycles (.oraIzx b) s = 6 ∧
      (let p := eaIzx b s
       let v : Byte := s.a ||| p.2.read p.1
       exec (.oraIzx b) s = .next { p.2.touch p.1 with
           a := v, flagZ := v == 0, flagN := v.getLsbD 7, pc := s.pc + 2 })) ∧
    (encode (.oraIzy b) = [0x11, b] ∧ instrCycles (.oraIzy b) s = 5 + (pageCrossed (s.pointer b).1 s.y).toNat ∧
      (let p := eaIzy b s
       let v : Byte := s.a ||| p.2.read p.1
       exec (.oraIzy b) s = .next { p.2.touch p.1 with
           a := v, flagZ := v == 0, flagN := v.getLsbD 7, pc := s.pc + 2 }))

/-- BIT (R138). That a read or store of a device address is recorded, and one to ROM ignored, is the model's choice
(logs 15 and 26). -/
def Obligations.BitTestsMemoryAgainstAccumulator : Prop :=
  ∀ (s : State) (b : Byte) (w : Word),
    (encode (.bitZp b) = [0x24, b] ∧ instrCycles (.bitZp b) s = 3 ∧
      (let m := s.read (eaZp b)
       exec (.bitZp b) s = .next { s.touch (eaZp b) with
           flagZ := (s.a &&& m) == 0, flagN := m.getLsbD 7, flagV := m.getLsbD 6, pc := s.pc + 2 })) ∧
    (encode (.bitAbs w) = [0x2C, loByte w, hiByte w] ∧ instrCycles (.bitAbs w) s = 4 ∧
      (let m := s.read w
       exec (.bitAbs w) s = .next { s.touch w with
           flagZ := (s.a &&& m) == 0, flagN := m.getLsbD 7, flagV := m.getLsbD 6, pc := s.pc + 3 }))

/-- ADC with D = 0, or with DECIMAL_MODE = BINARY (R146, R145); AddCore is specified by
`AddCoreComputesSumCarryOverflow`. That a read or store of a device address is recorded, and one to ROM ignored,
is the model's choice (logs 15 and 26). -/
def Obligations.AdcAddsWithCarry : Prop :=
  ∀ (s : State) (b : Byte) (w : Word),
    (s.flagD = false ∨ s.params.decimalMode = .binary) →
    (encode (.adcImm b) = [0x69, b] ∧ instrCycles (.adcImm b) s = 2 ∧
      (let o := addCore s.a b s.flagC
       exec (.adcImm b) s = .next
         { s with
             a := o.r, flagC := o.carry, flagV := o.overflow, flagZ := o.r == 0, flagN := o.r.getLsbD 7,
             pc := s.pc + 2 })) ∧
    (encode (.adcZp b) = [0x65, b] ∧ instrCycles (.adcZp b) s = 3 ∧
      (let o := addCore s.a (s.read (eaZp b)) s.flagC
       exec (.adcZp b) s = .next
         { s.touch (eaZp b) with
             a := o.r, flagC := o.carry, flagV := o.overflow, flagZ := o.r == 0, flagN := o.r.getLsbD 7,
             pc := s.pc + 2 })) ∧
    (encode (.adcZpx b) = [0x75, b] ∧ instrCycles (.adcZpx b) s = 4 ∧
      (let o := addCore s.a (s.read (eaZpx b s)) s.flagC
       exec (.adcZpx b) s = .next
         { s.touch (eaZpx b s) with
             a := o.r, flagC := o.carry, flagV := o.overflow, flagZ := o.r == 0, flagN := o.r.getLsbD 7,
             pc := s.pc + 2 })) ∧
    (encode (.adcAbs w) = [0x6D, loByte w, hiByte w] ∧ instrCycles (.adcAbs w) s = 4 ∧
      (let o := addCore s.a (s.read w) s.flagC
       exec (.adcAbs w) s = .next
         { s.touch w with
             a := o.r, flagC := o.carry, flagV := o.overflow, flagZ := o.r == 0, flagN := o.r.getLsbD 7,
             pc := s.pc + 3 })) ∧
    (encode (.adcAbx w) = [0x7D, loByte w, hiByte w] ∧ instrCycles (.adcAbx w) s = 4 + (pageCrossed w s.x).toNat ∧
      (let o := addCore s.a (s.read (eaAbx w s)) s.flagC
       exec (.adcAbx w) s = .next
         { s.touch (eaAbx w s) with
             a := o.r, flagC := o.carry, flagV := o.overflow, flagZ := o.r == 0, flagN := o.r.getLsbD 7,
             pc := s.pc + 3 })) ∧
    (encode (.adcAby w) = [0x79, loByte w, hiByte w] ∧ instrCycles (.adcAby w) s = 4 + (pageCrossed w s.y).toNat ∧
      (let o := addCore s.a (s.read (eaAby w s)) s.flagC
       exec (.adcAby w) s = .next
         { s.touch (eaAby w s) with
             a := o.r, flagC := o.carry, flagV := o.overflow, flagZ := o.r == 0, flagN := o.r.getLsbD 7,
             pc := s.pc + 3 })) ∧
    (encode (.adcIzx b) = [0x61, b] ∧ instrCycles (.adcIzx b) s = 6 ∧
      (let p := eaIzx b s
       let o := addCore s.a (p.2.read p.1) s.flagC
       exec (.adcIzx b) s = .next
         { p.2.touch p.1 with
             a := o.r, flagC := o.carry, flagV := o.overflow, flagZ := o.r == 0, flagN := o.r.getLsbD 7,
             pc := s.pc + 2 })) ∧
    (encode (.adcIzy b) = [0x71, b] ∧ instrCycles (.adcIzy b) s = 5 + (pageCrossed (s.pointer b).1 s.y).toNat ∧
      (let p := eaIzy b s
       let o := addCore s.a (p.2.read p.1) s.flagC
       exec (.adcIzy b) s = .next
         { p.2.touch p.1 with
             a := o.r, flagC := o.carry, flagV := o.overflow, flagZ := o.r == 0, flagN := o.r.getLsbD 7,
             pc := s.pc + 2 }))

/-- SBC with D = 0, or with DECIMAL_MODE = BINARY (R148, R145); the subtraction is specified by
`SubtractionIsAdditionOfComplement`. That a read or store of a device address is recorded, and one to ROM ignored,
is the model's choice (logs 15 and 26). -/
def Obligations.SbcSubtractsWithBorrow : Prop :=
  ∀ (s : State) (b : Byte) (w : Word),
    (s.flagD = false ∨ s.params.decimalMode = .binary) →
    (encode (.sbcImm b) = [0xE9, b] ∧ instrCycles (.sbcImm b) s = 2 ∧
      (let o := subCore s.a b s.flagC
       exec (.sbcImm b) s = .next
         { s with
             a := o.r, flagC := o.carry, flagV := o.overflow, flagZ := o.r == 0, flagN := o.r.getLsbD 7,
             pc := s.pc + 2 })) ∧
    (encode (.sbcZp b) = [0xE5, b] ∧ instrCycles (.sbcZp b) s = 3 ∧
      (let o := subCore s.a (s.read (eaZp b)) s.flagC
       exec (.sbcZp b) s = .next
         { s.touch (eaZp b) with
             a := o.r, flagC := o.carry, flagV := o.overflow, flagZ := o.r == 0, flagN := o.r.getLsbD 7,
             pc := s.pc + 2 })) ∧
    (encode (.sbcZpx b) = [0xF5, b] ∧ instrCycles (.sbcZpx b) s = 4 ∧
      (let o := subCore s.a (s.read (eaZpx b s)) s.flagC
       exec (.sbcZpx b) s = .next
         { s.touch (eaZpx b s) with
             a := o.r, flagC := o.carry, flagV := o.overflow, flagZ := o.r == 0, flagN := o.r.getLsbD 7,
             pc := s.pc + 2 })) ∧
    (encode (.sbcAbs w) = [0xED, loByte w, hiByte w] ∧ instrCycles (.sbcAbs w) s = 4 ∧
      (let o := subCore s.a (s.read w) s.flagC
       exec (.sbcAbs w) s = .next
         { s.touch w with
             a := o.r, flagC := o.carry, flagV := o.overflow, flagZ := o.r == 0, flagN := o.r.getLsbD 7,
             pc := s.pc + 3 })) ∧
    (encode (.sbcAbx w) = [0xFD, loByte w, hiByte w] ∧ instrCycles (.sbcAbx w) s = 4 + (pageCrossed w s.x).toNat ∧
      (let o := subCore s.a (s.read (eaAbx w s)) s.flagC
       exec (.sbcAbx w) s = .next
         { s.touch (eaAbx w s) with
             a := o.r, flagC := o.carry, flagV := o.overflow, flagZ := o.r == 0, flagN := o.r.getLsbD 7,
             pc := s.pc + 3 })) ∧
    (encode (.sbcAby w) = [0xF9, loByte w, hiByte w] ∧ instrCycles (.sbcAby w) s = 4 + (pageCrossed w s.y).toNat ∧
      (let o := subCore s.a (s.read (eaAby w s)) s.flagC
       exec (.sbcAby w) s = .next
         { s.touch (eaAby w s) with
             a := o.r, flagC := o.carry, flagV := o.overflow, flagZ := o.r == 0, flagN := o.r.getLsbD 7,
             pc := s.pc + 3 })) ∧
    (encode (.sbcIzx b) = [0xE1, b] ∧ instrCycles (.sbcIzx b) s = 6 ∧
      (let p := eaIzx b s
       let o := subCore s.a (p.2.read p.1) s.flagC
       exec (.sbcIzx b) s = .next
         { p.2.touch p.1 with
             a := o.r, flagC := o.carry, flagV := o.overflow, flagZ := o.r == 0, flagN := o.r.getLsbD 7,
             pc := s.pc + 2 })) ∧
    (encode (.sbcIzy b) = [0xF1, b] ∧ instrCycles (.sbcIzy b) s = 5 + (pageCrossed (s.pointer b).1 s.y).toNat ∧
      (let p := eaIzy b s
       let o := subCore s.a (p.2.read p.1) s.flagC
       exec (.sbcIzy b) s = .next
         { p.2.touch p.1 with
             a := o.r, flagC := o.carry, flagV := o.overflow, flagZ := o.r == 0, flagN := o.r.getLsbD 7,
             pc := s.pc + 2 }))

/-- AddCore (R147): the carry is the unsigned outcome, the overflow the signed one. -/
def Obligations.AddCoreComputesSumCarryOverflow : Prop :=
  ∀ (a m : Byte) (c : Bool),
    (addCore a m c).r.toNat = (a.toNat + m.toNat + c.toNat) % 256 ∧
    ((addCore a m c).carry = true ↔ 256 ≤ a.toNat + m.toNat + c.toNat) ∧
    ((addCore a m c).overflow = true ↔
      a.toInt + m.toInt + (c.toNat : Int) < -128 ∨ 127 < a.toInt + m.toInt + (c.toNat : Int)) ∧
    ((addCore a m c).overflow = true ↔ a.msb = m.msb ∧ (addCore a m c).r.msb ≠ a.msb)

/-- The subtraction of SBC (R148). -/
def Obligations.SubtractionIsAdditionOfComplement : Prop :=
  ∀ (a m : Byte) (c : Bool),
    subCore a m c = addCore a (m ^^^ 0xFF) c ∧
    ((subCore a m c).r.toNat : Int) = ((a.toNat : Int) - m.toNat - (1 - c.toNat)) % 256 ∧
    ((subCore a m c).carry = true ↔ m.toNat + (1 - c.toNat) ≤ a.toNat) ∧
    ((subCore a m c).overflow = true ↔
      a.toInt - m.toInt - (1 - (c.toNat : Int)) < -128 ∨ 127 < a.toInt - m.toInt - (1 - (c.toNat : Int)))

/-- The gate of R145 under DECIMAL_MODE = REFUSE: ADC and SBC alone are refused with D = 1. -/
def Obligations.DecimalModeRefusesUnderRefuse : Prop :=
  ∀ (i : Instr) (s : State), s.flagD = true → s.params.decimalMode = .refuse →
    (UsesDecimalMode i → exec i s = .refused .decimalModeNotSpecified) ∧
    (¬ UsesDecimalMode i → ∃ t, exec i s = .next t)

/-- The MODEL's choice (log 4, log 5), not the spec's: under DECIMAL_MODE = BCD, whose algorithm the spec does not
give, ADC and SBC run and A, C, V, Z and N are free values. It holds for every value of the free values. That a
read or store of a device address is recorded, and one to ROM ignored, is the model's choice (logs 15 and 26). -/
def Obligations.DecimalModeRunsOnFreeValues : Prop :=
  ∀ (i : Instr) (s : State), UsesDecimalMode i → s.flagD = true → s.params.decimalMode = .bcd →
    let v := Config.freeValue s.draws
    ∃ t, exec i { s with flagD := false } = .next t ∧
      exec i s = .next
        { s with
            bus := t.bus, a := v.setWidth 8, flagC := v.getLsbD 8, flagV := v.getLsbD 9, flagZ := v.getLsbD 10,
            flagN := v.getLsbD 11, draws := s.draws + 1, pc := s.pc + BitVec.ofNat 16 i.length }

/-- CMP, CPX and CPY in each of their modes (R149 to R152): unsigned; V and D play no part. That a read or store of a
device address is recorded, and one to ROM ignored, is the model's choice (logs 15 and 26). -/
def Obligations.ComparesSetCarryZeroNegative : Prop :=
  ∀ (s : State) (b : Byte) (w : Word),
    (encode (.cmpImm b) = [0xC9, b] ∧ instrCycles (.cmpImm b) s = 2 ∧
      (let m := b
       exec (.cmpImm b) s = .next
         { s with
             flagC := decide (m.toNat ≤ s.a.toNat), flagZ := decide (s.a = m), flagN := (s.a - m).getLsbD 7,
             pc := s.pc + 2 })) ∧
    (encode (.cmpZp b) = [0xC5, b] ∧ instrCycles (.cmpZp b) s = 3 ∧
      (let m := s.read (eaZp b)
       exec (.cmpZp b) s = .next
         { s.touch (eaZp b) with
             flagC := decide (m.toNat ≤ s.a.toNat), flagZ := decide (s.a = m), flagN := (s.a - m).getLsbD 7,
             pc := s.pc + 2 })) ∧
    (encode (.cmpZpx b) = [0xD5, b] ∧ instrCycles (.cmpZpx b) s = 4 ∧
      (let m := s.read (eaZpx b s)
       exec (.cmpZpx b) s = .next
         { s.touch (eaZpx b s) with
             flagC := decide (m.toNat ≤ s.a.toNat), flagZ := decide (s.a = m), flagN := (s.a - m).getLsbD 7,
             pc := s.pc + 2 })) ∧
    (encode (.cmpAbs w) = [0xCD, loByte w, hiByte w] ∧ instrCycles (.cmpAbs w) s = 4 ∧
      (let m := s.read w
       exec (.cmpAbs w) s = .next
         { s.touch w with
             flagC := decide (m.toNat ≤ s.a.toNat), flagZ := decide (s.a = m), flagN := (s.a - m).getLsbD 7,
             pc := s.pc + 3 })) ∧
    (encode (.cmpAbx w) = [0xDD, loByte w, hiByte w] ∧ instrCycles (.cmpAbx w) s = 4 + (pageCrossed w s.x).toNat ∧
      (let m := s.read (eaAbx w s)
       exec (.cmpAbx w) s = .next
         { s.touch (eaAbx w s) with
             flagC := decide (m.toNat ≤ s.a.toNat), flagZ := decide (s.a = m), flagN := (s.a - m).getLsbD 7,
             pc := s.pc + 3 })) ∧
    (encode (.cmpAby w) = [0xD9, loByte w, hiByte w] ∧ instrCycles (.cmpAby w) s = 4 + (pageCrossed w s.y).toNat ∧
      (let m := s.read (eaAby w s)
       exec (.cmpAby w) s = .next
         { s.touch (eaAby w s) with
             flagC := decide (m.toNat ≤ s.a.toNat), flagZ := decide (s.a = m), flagN := (s.a - m).getLsbD 7,
             pc := s.pc + 3 })) ∧
    (encode (.cmpIzx b) = [0xC1, b] ∧ instrCycles (.cmpIzx b) s = 6 ∧
      (let p := eaIzx b s
       let m := p.2.read p.1
       exec (.cmpIzx b) s = .next
         { p.2.touch p.1 with
             flagC := decide (m.toNat ≤ s.a.toNat), flagZ := decide (s.a = m), flagN := (s.a - m).getLsbD 7,
             pc := s.pc + 2 })) ∧
    (encode (.cmpIzy b) = [0xD1, b] ∧ instrCycles (.cmpIzy b) s = 5 + (pageCrossed (s.pointer b).1 s.y).toNat ∧
      (let p := eaIzy b s
       let m := p.2.read p.1
       exec (.cmpIzy b) s = .next
         { p.2.touch p.1 with
             flagC := decide (m.toNat ≤ s.a.toNat), flagZ := decide (s.a = m), flagN := (s.a - m).getLsbD 7,
             pc := s.pc + 2 })) ∧
    (encode (.cpxImm b) = [0xE0, b] ∧ instrCycles (.cpxImm b) s = 2 ∧
      (let m := b
       exec (.cpxImm b) s = .next
         { s with
             flagC := decide (m.toNat ≤ s.x.toNat), flagZ := decide (s.x = m), flagN := (s.x - m).getLsbD 7,
             pc := s.pc + 2 })) ∧
    (encode (.cpxZp b) = [0xE4, b] ∧ instrCycles (.cpxZp b) s = 3 ∧
      (let m := s.read (eaZp b)
       exec (.cpxZp b) s = .next
         { s.touch (eaZp b) with
             flagC := decide (m.toNat ≤ s.x.toNat), flagZ := decide (s.x = m), flagN := (s.x - m).getLsbD 7,
             pc := s.pc + 2 })) ∧
    (encode (.cpxAbs w) = [0xEC, loByte w, hiByte w] ∧ instrCycles (.cpxAbs w) s = 4 ∧
      (let m := s.read w
       exec (.cpxAbs w) s = .next
         { s.touch w with
             flagC := decide (m.toNat ≤ s.x.toNat), flagZ := decide (s.x = m), flagN := (s.x - m).getLsbD 7,
             pc := s.pc + 3 })) ∧
    (encode (.cpyImm b) = [0xC0, b] ∧ instrCycles (.cpyImm b) s = 2 ∧
      (let m := b
       exec (.cpyImm b) s = .next
         { s with
             flagC := decide (m.toNat ≤ s.y.toNat), flagZ := decide (s.y = m), flagN := (s.y - m).getLsbD 7,
             pc := s.pc + 2 })) ∧
    (encode (.cpyZp b) = [0xC4, b] ∧ instrCycles (.cpyZp b) s = 3 ∧
      (let m := s.read (eaZp b)
       exec (.cpyZp b) s = .next
         { s.touch (eaZp b) with
             flagC := decide (m.toNat ≤ s.y.toNat), flagZ := decide (s.y = m), flagN := (s.y - m).getLsbD 7,
             pc := s.pc + 2 })) ∧
    (encode (.cpyAbs w) = [0xCC, loByte w, hiByte w] ∧ instrCycles (.cpyAbs w) s = 4 ∧
      (let m := s.read w
       exec (.cpyAbs w) s = .next
         { s.touch w with
             flagC := decide (m.toNat ≤ s.y.toNat), flagZ := decide (s.y = m), flagN := (s.y - m).getLsbD 7,
             pc := s.pc + 3 }))

/-- INC and DEC in each of their modes (R160, R163). That a read or store of a device address is recorded, and one to
ROM ignored, is the model's choice (logs 15 and 26). -/
def Obligations.IncAndDecChangeOneByte : Prop :=
  ∀ (s : State) (b : Byte) (w : Word),
    (encode (.incZp b) = [0xE6, b] ∧ instrCycles (.incZp b) s = 5 ∧
      (let v : Byte := s.read (eaZp b) + 1
       ∃ t, exec (.incZp b) s = .next t ∧
         t = { s with mem := t.mem, bus := t.bus, flagZ := v == 0, flagN := v.getLsbD 7, pc := s.pc + 2 } ∧
         StoresByte (s.touch (eaZp b)) t (eaZp b) v)) ∧
    (encode (.incZpx b) = [0xF6, b] ∧ instrCycles (.incZpx b) s = 6 ∧
      (let v : Byte := s.read (eaZpx b s) + 1
       ∃ t, exec (.incZpx b) s = .next t ∧
         t = { s with mem := t.mem, bus := t.bus, flagZ := v == 0, flagN := v.getLsbD 7, pc := s.pc + 2 } ∧
         StoresByte (s.touch (eaZpx b s)) t (eaZpx b s) v)) ∧
    (encode (.incAbs w) = [0xEE, loByte w, hiByte w] ∧ instrCycles (.incAbs w) s = 6 ∧
      (let v : Byte := s.read w + 1
       ∃ t, exec (.incAbs w) s = .next t ∧
         t = { s with mem := t.mem, bus := t.bus, flagZ := v == 0, flagN := v.getLsbD 7, pc := s.pc + 3 } ∧
         StoresByte (s.touch w) t w v)) ∧
    (encode (.incAbx w) = [0xFE, loByte w, hiByte w] ∧ instrCycles (.incAbx w) s = 7 ∧
      (let v : Byte := s.read (eaAbx w s) + 1
       ∃ t, exec (.incAbx w) s = .next t ∧
         t = { s with mem := t.mem, bus := t.bus, flagZ := v == 0, flagN := v.getLsbD 7, pc := s.pc + 3 } ∧
         StoresByte (s.touch (eaAbx w s)) t (eaAbx w s) v)) ∧
    (encode (.decZp b) = [0xC6, b] ∧ instrCycles (.decZp b) s = 5 ∧
      (let v : Byte := s.read (eaZp b) - 1
       ∃ t, exec (.decZp b) s = .next t ∧
         t = { s with mem := t.mem, bus := t.bus, flagZ := v == 0, flagN := v.getLsbD 7, pc := s.pc + 2 } ∧
         StoresByte (s.touch (eaZp b)) t (eaZp b) v)) ∧
    (encode (.decZpx b) = [0xD6, b] ∧ instrCycles (.decZpx b) s = 6 ∧
      (let v : Byte := s.read (eaZpx b s) - 1
       ∃ t, exec (.decZpx b) s = .next t ∧
         t = { s with mem := t.mem, bus := t.bus, flagZ := v == 0, flagN := v.getLsbD 7, pc := s.pc + 2 } ∧
         StoresByte (s.touch (eaZpx b s)) t (eaZpx b s) v)) ∧
    (encode (.decAbs w) = [0xCE, loByte w, hiByte w] ∧ instrCycles (.decAbs w) s = 6 ∧
      (let v : Byte := s.read w - 1
       ∃ t, exec (.decAbs w) s = .next t ∧
         t = { s with mem := t.mem, bus := t.bus, flagZ := v == 0, flagN := v.getLsbD 7, pc := s.pc + 3 } ∧
         StoresByte (s.touch w) t w v)) ∧
    (encode (.decAbx w) = [0xDE, loByte w, hiByte w] ∧ instrCycles (.decAbx w) s = 7 ∧
      (let v : Byte := s.read (eaAbx w s) - 1
       ∃ t, exec (.decAbx w) s = .next t ∧
         t = { s with mem := t.mem, bus := t.bus, flagZ := v == 0, flagN := v.getLsbD 7, pc := s.pc + 3 } ∧
         StoresByte (s.touch (eaAbx w s)) t (eaAbx w s) v))

/-- INX, INY, DEX and DEY (R161, R162, R164, R165); the sum is modulo 256. -/
def Obligations.IndexIncrementsAndDecrementsWrap : Prop :=
  ∀ (s : State),
    (encode .inx = [0xE8] ∧ instrCycles .inx s = 2 ∧
      (let v : Byte := s.x + 1
       exec .inx s = .next { s with x := v, flagZ := v == 0, flagN := v.getLsbD 7, pc := s.pc + 1 })) ∧
    (encode .iny = [0xC8] ∧ instrCycles .iny s = 2 ∧
      (let v : Byte := s.y + 1
       exec .iny s = .next { s with y := v, flagZ := v == 0, flagN := v.getLsbD 7, pc := s.pc + 1 })) ∧
    (encode .dex = [0xCA] ∧ instrCycles .dex s = 2 ∧
      (let v : Byte := s.x - 1
       exec .dex s = .next { s with x := v, flagZ := v == 0, flagN := v.getLsbD 7, pc := s.pc + 1 })) ∧
    (encode .dey = [0x88] ∧ instrCycles .dey s = 2 ∧
      (let v : Byte := s.y - 1
       exec .dey s = .next { s with y := v, flagZ := v == 0, flagN := v.getLsbD 7, pc := s.pc + 1 }))

/-- ASL on A and in each of its memory modes (R170, R174): Z and N are from the result. That a read or store of a
device address is recorded, and one to ROM ignored, is the model's choice (logs 15 and 26). -/
def Obligations.AslShiftsLeftIntoCarry : Prop :=
  ∀ (s : State) (b : Byte) (w : Word),
    (encode .aslAcc = [0x0A] ∧ instrCycles .aslAcc s = 2 ∧
      (let v := s.a
       let r : Byte := (v.extractLsb' 0 7 ++ 0#1 : BitVec 8)
       exec .aslAcc s = .next { s with
           a := r, flagC := v.getLsbD 7, flagZ := r == 0, flagN := r.getLsbD 7, pc := s.pc + 1 })) ∧
    (encode (.aslZp b) = [0x06, b] ∧ instrCycles (.aslZp b) s = 5 ∧
      (let v := s.read (eaZp b)
       let r : Byte := (v.extractLsb' 0 7 ++ 0#1 : BitVec 8)
       ∃ t, exec (.aslZp b) s = .next t ∧
         t = { s with
             mem := t.mem, bus := t.bus, flagC := v.getLsbD 7, flagZ := r == 0, flagN := r.getLsbD 7,
             pc := s.pc + 2 } ∧
         StoresByte (s.touch (eaZp b)) t (eaZp b) r)) ∧
    (encode (.aslZpx b) = [0x16, b] ∧ instrCycles (.aslZpx b) s = 6 ∧
      (let v := s.read (eaZpx b s)
       let r : Byte := (v.extractLsb' 0 7 ++ 0#1 : BitVec 8)
       ∃ t, exec (.aslZpx b) s = .next t ∧
         t = { s with
             mem := t.mem, bus := t.bus, flagC := v.getLsbD 7, flagZ := r == 0, flagN := r.getLsbD 7,
             pc := s.pc + 2 } ∧
         StoresByte (s.touch (eaZpx b s)) t (eaZpx b s) r)) ∧
    (encode (.aslAbs w) = [0x0E, loByte w, hiByte w] ∧ instrCycles (.aslAbs w) s = 6 ∧
      (let v := s.read w
       let r : Byte := (v.extractLsb' 0 7 ++ 0#1 : BitVec 8)
       ∃ t, exec (.aslAbs w) s = .next t ∧
         t = { s with
             mem := t.mem, bus := t.bus, flagC := v.getLsbD 7, flagZ := r == 0, flagN := r.getLsbD 7,
             pc := s.pc + 3 } ∧
         StoresByte (s.touch w) t w r)) ∧
    (encode (.aslAbx w) = [0x1E, loByte w, hiByte w] ∧ instrCycles (.aslAbx w) s = 7 ∧
      (let v := s.read (eaAbx w s)
       let r : Byte := (v.extractLsb' 0 7 ++ 0#1 : BitVec 8)
       ∃ t, exec (.aslAbx w) s = .next t ∧
         t = { s with
             mem := t.mem, bus := t.bus, flagC := v.getLsbD 7, flagZ := r == 0, flagN := r.getLsbD 7,
             pc := s.pc + 3 } ∧
         StoresByte (s.touch (eaAbx w s)) t (eaAbx w s) r))

/-- LSR on A and in each of its memory modes (R171, R174): Z and N are from the result. That a read or store of a
device address is recorded, and one to ROM ignored, is the model's choice (logs 15 and 26). -/
def Obligations.LsrShiftsRightIntoCarry : Prop :=
  ∀ (s : State) (b : Byte) (w : Word),
    (encode .lsrAcc = [0x4A] ∧ instrCycles .lsrAcc s = 2 ∧
      (let v := s.a
       let r : Byte := (0#1 ++ v.extractLsb' 1 7 : BitVec 8)
       exec .lsrAcc s = .next { s with
           a := r, flagC := v.getLsbD 0, flagZ := r == 0, flagN := r.getLsbD 7, pc := s.pc + 1 })) ∧
    (encode (.lsrZp b) = [0x46, b] ∧ instrCycles (.lsrZp b) s = 5 ∧
      (let v := s.read (eaZp b)
       let r : Byte := (0#1 ++ v.extractLsb' 1 7 : BitVec 8)
       ∃ t, exec (.lsrZp b) s = .next t ∧
         t = { s with
             mem := t.mem, bus := t.bus, flagC := v.getLsbD 0, flagZ := r == 0, flagN := r.getLsbD 7,
             pc := s.pc + 2 } ∧
         StoresByte (s.touch (eaZp b)) t (eaZp b) r)) ∧
    (encode (.lsrZpx b) = [0x56, b] ∧ instrCycles (.lsrZpx b) s = 6 ∧
      (let v := s.read (eaZpx b s)
       let r : Byte := (0#1 ++ v.extractLsb' 1 7 : BitVec 8)
       ∃ t, exec (.lsrZpx b) s = .next t ∧
         t = { s with
             mem := t.mem, bus := t.bus, flagC := v.getLsbD 0, flagZ := r == 0, flagN := r.getLsbD 7,
             pc := s.pc + 2 } ∧
         StoresByte (s.touch (eaZpx b s)) t (eaZpx b s) r)) ∧
    (encode (.lsrAbs w) = [0x4E, loByte w, hiByte w] ∧ instrCycles (.lsrAbs w) s = 6 ∧
      (let v := s.read w
       let r : Byte := (0#1 ++ v.extractLsb' 1 7 : BitVec 8)
       ∃ t, exec (.lsrAbs w) s = .next t ∧
         t = { s with
             mem := t.mem, bus := t.bus, flagC := v.getLsbD 0, flagZ := r == 0, flagN := r.getLsbD 7,
             pc := s.pc + 3 } ∧
         StoresByte (s.touch w) t w r)) ∧
    (encode (.lsrAbx w) = [0x5E, loByte w, hiByte w] ∧ instrCycles (.lsrAbx w) s = 7 ∧
      (let v := s.read (eaAbx w s)
       let r : Byte := (0#1 ++ v.extractLsb' 1 7 : BitVec 8)
       ∃ t, exec (.lsrAbx w) s = .next t ∧
         t = { s with
             mem := t.mem, bus := t.bus, flagC := v.getLsbD 0, flagZ := r == 0, flagN := r.getLsbD 7,
             pc := s.pc + 3 } ∧
         StoresByte (s.touch (eaAbx w s)) t (eaAbx w s) r))

/-- ROL on A and in each of its memory modes (R172, R174): Z and N are from the result. That a read or store of a
device address is recorded, and one to ROM ignored, is the model's choice (logs 15 and 26). -/
def Obligations.RolRotatesLeftThroughCarry : Prop :=
  ∀ (s : State) (b : Byte) (w : Word),
    (encode .rolAcc = [0x2A] ∧ instrCycles .rolAcc s = 2 ∧
      (let v := s.a
       let r : Byte := (v.extractLsb' 0 7 ++ BitVec.ofBool s.flagC : BitVec 8)
       exec .rolAcc s = .next { s with
           a := r, flagC := v.getLsbD 7, flagZ := r == 0, flagN := r.getLsbD 7, pc := s.pc + 1 })) ∧
    (encode (.rolZp b) = [0x26, b] ∧ instrCycles (.rolZp b) s = 5 ∧
      (let v := s.read (eaZp b)
       let r : Byte := (v.extractLsb' 0 7 ++ BitVec.ofBool s.flagC : BitVec 8)
       ∃ t, exec (.rolZp b) s = .next t ∧
         t = { s with
             mem := t.mem, bus := t.bus, flagC := v.getLsbD 7, flagZ := r == 0, flagN := r.getLsbD 7,
             pc := s.pc + 2 } ∧
         StoresByte (s.touch (eaZp b)) t (eaZp b) r)) ∧
    (encode (.rolZpx b) = [0x36, b] ∧ instrCycles (.rolZpx b) s = 6 ∧
      (let v := s.read (eaZpx b s)
       let r : Byte := (v.extractLsb' 0 7 ++ BitVec.ofBool s.flagC : BitVec 8)
       ∃ t, exec (.rolZpx b) s = .next t ∧
         t = { s with
             mem := t.mem, bus := t.bus, flagC := v.getLsbD 7, flagZ := r == 0, flagN := r.getLsbD 7,
             pc := s.pc + 2 } ∧
         StoresByte (s.touch (eaZpx b s)) t (eaZpx b s) r)) ∧
    (encode (.rolAbs w) = [0x2E, loByte w, hiByte w] ∧ instrCycles (.rolAbs w) s = 6 ∧
      (let v := s.read w
       let r : Byte := (v.extractLsb' 0 7 ++ BitVec.ofBool s.flagC : BitVec 8)
       ∃ t, exec (.rolAbs w) s = .next t ∧
         t = { s with
             mem := t.mem, bus := t.bus, flagC := v.getLsbD 7, flagZ := r == 0, flagN := r.getLsbD 7,
             pc := s.pc + 3 } ∧
         StoresByte (s.touch w) t w r)) ∧
    (encode (.rolAbx w) = [0x3E, loByte w, hiByte w] ∧ instrCycles (.rolAbx w) s = 7 ∧
      (let v := s.read (eaAbx w s)
       let r : Byte := (v.extractLsb' 0 7 ++ BitVec.ofBool s.flagC : BitVec 8)
       ∃ t, exec (.rolAbx w) s = .next t ∧
         t = { s with
             mem := t.mem, bus := t.bus, flagC := v.getLsbD 7, flagZ := r == 0, flagN := r.getLsbD 7,
             pc := s.pc + 3 } ∧
         StoresByte (s.touch (eaAbx w s)) t (eaAbx w s) r))

/-- ROR on A and in each of its memory modes (R173, R174): Z and N are from the result. That a read or store of a
device address is recorded, and one to ROM ignored, is the model's choice (logs 15 and 26). -/
def Obligations.RorRotatesRightThroughCarry : Prop :=
  ∀ (s : State) (b : Byte) (w : Word),
    (encode .rorAcc = [0x6A] ∧ instrCycles .rorAcc s = 2 ∧
      (let v := s.a
       let r : Byte := (BitVec.ofBool s.flagC ++ v.extractLsb' 1 7 : BitVec 8)
       exec .rorAcc s = .next { s with
           a := r, flagC := v.getLsbD 0, flagZ := r == 0, flagN := r.getLsbD 7, pc := s.pc + 1 })) ∧
    (encode (.rorZp b) = [0x66, b] ∧ instrCycles (.rorZp b) s = 5 ∧
      (let v := s.read (eaZp b)
       let r : Byte := (BitVec.ofBool s.flagC ++ v.extractLsb' 1 7 : BitVec 8)
       ∃ t, exec (.rorZp b) s = .next t ∧
         t = { s with
             mem := t.mem, bus := t.bus, flagC := v.getLsbD 0, flagZ := r == 0, flagN := r.getLsbD 7,
             pc := s.pc + 2 } ∧
         StoresByte (s.touch (eaZp b)) t (eaZp b) r)) ∧
    (encode (.rorZpx b) = [0x76, b] ∧ instrCycles (.rorZpx b) s = 6 ∧
      (let v := s.read (eaZpx b s)
       let r : Byte := (BitVec.ofBool s.flagC ++ v.extractLsb' 1 7 : BitVec 8)
       ∃ t, exec (.rorZpx b) s = .next t ∧
         t = { s with
             mem := t.mem, bus := t.bus, flagC := v.getLsbD 0, flagZ := r == 0, flagN := r.getLsbD 7,
             pc := s.pc + 2 } ∧
         StoresByte (s.touch (eaZpx b s)) t (eaZpx b s) r)) ∧
    (encode (.rorAbs w) = [0x6E, loByte w, hiByte w] ∧ instrCycles (.rorAbs w) s = 6 ∧
      (let v := s.read w
       let r : Byte := (BitVec.ofBool s.flagC ++ v.extractLsb' 1 7 : BitVec 8)
       ∃ t, exec (.rorAbs w) s = .next t ∧
         t = { s with
             mem := t.mem, bus := t.bus, flagC := v.getLsbD 0, flagZ := r == 0, flagN := r.getLsbD 7,
             pc := s.pc + 3 } ∧
         StoresByte (s.touch w) t w r)) ∧
    (encode (.rorAbx w) = [0x7E, loByte w, hiByte w] ∧ instrCycles (.rorAbx w) s = 7 ∧
      (let v := s.read (eaAbx w s)
       let r : Byte := (BitVec.ofBool s.flagC ++ v.extractLsb' 1 7 : BitVec 8)
       ∃ t, exec (.rorAbx w) s = .next t ∧
         t = { s with
             mem := t.mem, bus := t.bus, flagC := v.getLsbD 0, flagZ := r == 0, flagN := r.getLsbD 7,
             pc := s.pc + 3 } ∧
         StoresByte (s.touch (eaAbx w s)) t (eaAbx w s) r))

/-- JMP Absolute and JMP (Indirect) (R180, R182), under both settings of JMP_IND_WRAP. That a read or store of a
device address is recorded, and one to ROM ignored, is the model's choice (logs 15 and 26). -/
def Obligations.JmpSetsProgramCounter : Prop :=
  ∀ (s : State) (w : Word),
    (encode (.jmpAbs w) = [0x4C, loByte w, hiByte w] ∧ instrCycles (.jmpAbs w) s = 3 ∧
      exec (.jmpAbs w) s = .next { s with pc := w }) ∧
    (encode (.jmpInd w) = [0x6C, loByte w, hiByte w] ∧ instrCycles (.jmpInd w) s = 5 ∧
      (let high : Word := if s.params.jmpIndWrap = .page then joinBytes (hiByte w) (loByte w + 1) else w + 1
       exec (.jmpInd w) s = .next { (s.touch w).touch high with pc := joinBytes ((s.touch w).read high) (s.read w) })) ∧
    (loByte w ≠ 0xFF → joinBytes (hiByte w) (loByte w + 1) = w + 1)

/-- JSR (R183). That a read or store of a device address is recorded, and one to ROM ignored, is the model's choice
(logs 15 and 26). -/
def Obligations.JsrPushesReturnAddressMinusOne : Prop :=
  ∀ (s : State) (w : Word),
    encode (.jsr w) = [0x20, loByte w, hiByte w] ∧ instrCycles (.jsr w) s = 6 ∧
    ∃ t, exec (.jsr w) s = .next t ∧ t = { s with mem := t.mem, bus := t.bus, sp := s.sp - 2, pc := w } ∧
      Stores s t (returnBytes s (s.pc + 2))

/-- RTS (R184). That a read or store of a device address is recorded, and one to ROM ignored, is the model's choice
(logs 15 and 26). -/
def Obligations.RtsPullsReturnAddressAndAddsOne : Prop :=
  ∀ (s : State),
    encode .rts = [0x60] ∧ instrCycles .rts s = 6 ∧
    (let low := stackAddr (s.sp + 1)
     let high := stackAddr (s.sp + 2)
     exec .rts s = .next
       { (s.touch low).touch high with sp := s.sp + 2, pc := joinBytes ((s.touch low).read high) (s.read low) + 1 })

/-- The eight branches (R190 to R198): the base is the address of the next instruction. -/
def Obligations.BranchesAddSignedOffsetWhenTaken : Prop :=
  ∀ (s : State) (b : Byte),
    let taken := if hiByte (s.pc + 2 + b.signExtend 16) = hiByte (s.pc + 2) then 3 else 4
    (encode (.bcc b) = [0x90, b] ∧ instrCycles (.bcc b) s = (if !s.flagC then taken else 2) ∧
       exec (.bcc b) s = .next { s with pc := if !s.flagC then s.pc + 2 + b.signExtend 16 else s.pc + 2 }) ∧
    (encode (.bcs b) = [0xB0, b] ∧ instrCycles (.bcs b) s = (if s.flagC then taken else 2) ∧
       exec (.bcs b) s = .next { s with pc := if s.flagC then s.pc + 2 + b.signExtend 16 else s.pc + 2 }) ∧
    (encode (.beq b) = [0xF0, b] ∧ instrCycles (.beq b) s = (if s.flagZ then taken else 2) ∧
       exec (.beq b) s = .next { s with pc := if s.flagZ then s.pc + 2 + b.signExtend 16 else s.pc + 2 }) ∧
    (encode (.bmi b) = [0x30, b] ∧ instrCycles (.bmi b) s = (if s.flagN then taken else 2) ∧
       exec (.bmi b) s = .next { s with pc := if s.flagN then s.pc + 2 + b.signExtend 16 else s.pc + 2 }) ∧
    (encode (.bne b) = [0xD0, b] ∧ instrCycles (.bne b) s = (if !s.flagZ then taken else 2) ∧
       exec (.bne b) s = .next { s with pc := if !s.flagZ then s.pc + 2 + b.signExtend 16 else s.pc + 2 }) ∧
    (encode (.bpl b) = [0x10, b] ∧ instrCycles (.bpl b) s = (if !s.flagN then taken else 2) ∧
       exec (.bpl b) s = .next { s with pc := if !s.flagN then s.pc + 2 + b.signExtend 16 else s.pc + 2 }) ∧
    (encode (.bvc b) = [0x50, b] ∧ instrCycles (.bvc b) s = (if !s.flagV then taken else 2) ∧
       exec (.bvc b) s = .next { s with pc := if !s.flagV then s.pc + 2 + b.signExtend 16 else s.pc + 2 }) ∧
    (encode (.bvs b) = [0x70, b] ∧ instrCycles (.bvs b) s = (if s.flagV then taken else 2) ∧
       exec (.bvs b) s = .next { s with pc := if s.flagV then s.pc + 2 + b.signExtend 16 else s.pc + 2 })

/-- The status flag changes (R205 to R211). -/
def Obligations.FlagInstructionsSetOrClearOneFlag : Prop :=
  ∀ (s : State),
    (encode .clc = [0x18] ∧ instrCycles .clc s = 2 ∧ exec .clc s = .next { s with flagC := false, pc := s.pc + 1 }) ∧
    (encode .cld = [0xD8] ∧ instrCycles .cld s = 2 ∧ exec .cld s = .next { s with flagD := false, pc := s.pc + 1 }) ∧
    (encode .cli = [0x58] ∧ instrCycles .cli s = 2 ∧ exec .cli s = .next { s with flagI := false, pc := s.pc + 1 }) ∧
    (encode .clv = [0xB8] ∧ instrCycles .clv s = 2 ∧ exec .clv s = .next { s with flagV := false, pc := s.pc + 1 }) ∧
    (encode .sec = [0x38] ∧ instrCycles .sec s = 2 ∧ exec .sec s = .next { s with flagC := true, pc := s.pc + 1 }) ∧
    (encode .sed = [0xF8] ∧ instrCycles .sed s = 2 ∧ exec .sed s = .next { s with flagD := true, pc := s.pc + 1 }) ∧
    (encode .sei = [0x78] ∧ instrCycles .sei s = 2 ∧ exec .sei s = .next { s with flagI := true, pc := s.pc + 1 })

/-- BRK (R215), the machine's one synchronous trap (R231), under every setting of its parameters. That a read or store
of a device address is recorded, and one to ROM ignored, is the model's choice (logs 15 and 26). -/
def Obligations.BrkTakesTheTrap : Prop :=
  ∀ (s : State),
    encode .brk = [0x00] ∧ instrCycles .brk s = 7 ∧
    ∃ u, u = { s with mem := u.mem, bus := u.bus, sp := s.sp - 3 } ∧
      Stores s u (trapBytes s (s.pc + BitVec.ofNat 16 s.params.brkPushOffset)
        (s.packP (match s.params.brkPushedB with | .live => s.flagB | .one => true))) ∧
      exec .brk s = .next
        { (u.touch 0xFFFE).touch 0xFFFF with
            pc := joinBytes ((u.touch 0xFFFE).read 0xFFFF) (u.read 0xFFFE), flagB := true,
            flagI := s.flagI || s.params.brkSetsI }

/-- NOP (R216). -/
def Obligations.NopOnlyAdvances : Prop :=
  ∀ (s : State), encode .nop = [0xEA] ∧ instrCycles .nop s = 2 ∧ exec .nop s = .next { s with pc := s.pc + 1 }

/-- RTI (R217, R243): nothing is added to the pulled address. Each flag comes from the bit that P_LAYOUT gives it.
That a read or store of a device address is recorded, and one to ROM ignored, is the model's choice (logs 15 and
26). -/
def Obligations.RtiRestoresFlagsAndProgramCounter : Prop :=
  ∀ (s : State),
    encode .rti = [0x40] ∧ instrCycles .rti s = 6 ∧
    (let a := stackAddr (s.sp + 1)
     let low := stackAddr (s.sp + 2)
     let high := stackAddr (s.sp + 3)
     let v := s.read a
     let l := s.params.pLayout
     exec .rti s = .next
       { ((s.touch a).touch low).touch high with
           flagN := v.getLsbD l.n, flagV := v.getLsbD l.v, flagB := v.getLsbD l.b, flagD := v.getLsbD l.d,
           flagI := v.getLsbD l.i, flagZ := v.getLsbD l.z, flagC := v.getLsbD l.c, sp := s.sp + 3,
           pc := joinBytes (((s.touch a).touch low).read high) ((s.touch a).read low) })

/-- The effective addresses of the memory modes, in numbers, and the reads of the two that load a pointer
(30_encoding.md section 2). That Zero Page,Y wraps inside page zero is the spec's own decision D8, not the
source's (R79; log 14). That a read or store of a device address is recorded, and one to ROM ignored, is the
model's choice (logs 15 and 26). -/
def Obligations.EffectiveAddressesOfTheModes : Prop :=
  ∀ (s : State) (b : Byte) (w : Word),
    (eaZp b).toNat = b.toNat ∧
    (eaZpx b s).toNat = (b.toNat + s.x.toNat) % 256 ∧
    (eaZpy b s).toNat = (b.toNat + s.y.toNat) % 256 ∧
    (eaAbx w s).toNat = (w.toNat + s.x.toNat) % 65536 ∧
    (eaAby w s).toNat = (w.toNat + s.y.toNat) % 65536 ∧
    (let z := BitVec.ofNat 16 b.toNat
     let z' := BitVec.ofNat 16 ((b.toNat + 1) % 256)
     (s.pointer b).1.toNat = ((s.touch z).read z').toNat * 256 + (s.read z).toNat ∧
     (s.pointer b).2 = (s.touch z).touch z') ∧
    (let z := BitVec.ofNat 16 ((b.toNat + s.x.toNat) % 256)
     let z' := BitVec.ofNat 16 ((b.toNat + s.x.toNat + 1) % 256)
     (eaIzx b s).1.toNat = ((s.touch z).read z').toNat * 256 + (s.read z).toNat ∧
     (eaIzx b s).2 = (s.touch z).touch z') ∧
    (let z := BitVec.ofNat 16 b.toNat
     let z' := BitVec.ofNat 16 ((b.toNat + 1) % 256)
     (eaIzy b s).1.toNat = (((s.touch z).read z').toNat * 256 + (s.read z).toNat + s.y.toNat) % 65536 ∧
     (eaIzy b s).2 = (s.touch z).touch z')

/-- Relative (R80): the offset is two's complement, the base is the address after the branch. -/
def Obligations.BranchTargetIsSignedOffset : Prop :=
  ∀ (s : State) (b : Byte),
    ((branchTarget b s).toNat : Int) = ((s.pc.toNat : Int) + 2 + b.toInt) % 65536

/-- Push and Pull (R17, R18) on the fixed page (R16), for every S, wraps included (R19). That a read or store of a
device address is recorded, and one to ROM ignored, is the model's choice (logs 15 and 26). -/
def Obligations.PullReversesPush : Prop :=
  ∀ (s : State) (v : Byte),
    s.push v = { s with mem := (s.push v).mem, bus := (s.push v).bus, sp := s.sp - 1 } ∧
    StoresByte s (s.push v) (stackAddr s.sp) v ∧
    s.pull = (s.read (stackAddr (s.sp + 1)), { s.touch (stackAddr (s.sp + 1)) with sp := s.sp + 1 }) ∧
    (s.kindAt (stackAddr s.sp) = .ram → (s.push v).pull = (v, { s with mem := (s.push v).mem })) ∧
    (stackAddr s.sp).toNat = 0x0100 + s.sp.toNat

/-- PackP and UnpackP (R26, R27) under every P_LAYOUT that gives the seven flags seven bits, under the default layout
in numbers, and the identities of 95_test_vectors.md section 2.12. -/
def Obligations.StatusByteLayoutAndRoundTrip : Prop :=
  ∀ (s : State) (b : Bool) (v : Byte),
    (let l := s.params.pLayout
     s.unpackP v = { s with
         flagN := v.getLsbD l.n, flagV := v.getLsbD l.v, flagB := v.getLsbD l.b, flagD := v.getLsbD l.d,
         flagI := v.getLsbD l.i, flagZ := v.getLsbD l.z, flagC := v.getLsbD l.c } ∧
     (l.distinct = true →
       (s.packP b).getLsbD l.n = s.flagN ∧ (s.packP b).getLsbD l.v = s.flagV ∧ (s.packP b).getLsbD l.b = b ∧
       (s.packP b).getLsbD l.d = s.flagD ∧ (s.packP b).getLsbD l.i = s.flagI ∧ (s.packP b).getLsbD l.z = s.flagZ ∧
       (s.packP b).getLsbD l.c = s.flagC ∧
       (∀ k : Fin 8, k ∉ l.positions → (s.packP b).getLsbD k = s.params.pBit5) ∧
       s.unpackP (s.packP s.flagB) = s ∧
       ∀ k : Fin 8, k ∈ l.positions → ((s.unpackP v).packP (s.unpackP v).flagB).getLsbD k = v.getLsbD k)) ∧
    (s.params.pLayout = PLayout.standard →
      (s.packP b).getLsbD 7 = s.flagN ∧ (s.packP b).getLsbD 6 = s.flagV ∧ (s.packP b).getLsbD 5 = s.params.pBit5 ∧
      (s.packP b).getLsbD 4 = b ∧ (s.packP b).getLsbD 3 = s.flagD ∧ (s.packP b).getLsbD 2 = s.flagI ∧
      (s.packP b).getLsbD 1 = s.flagZ ∧ (s.packP b).getLsbD 0 = s.flagC ∧
      s.unpackP v = { s with
          flagN := v.getLsbD 7, flagV := v.getLsbD 6, flagB := v.getLsbD 4, flagD := v.getLsbD 3,
          flagI := v.getLsbD 2, flagZ := v.getLsbD 1, flagC := v.getLsbD 0 } ∧
      (s.params.pBit5 = true → (s.unpackP v).packP (s.unpackP v).flagB = v ||| 0x20))

/-- JSR and RTS together (R183, R184), with RAM where JSR pushes: a subroutine that leaves S and the two stacked bytes
alone returns to the instruction after the call. -/
def Obligations.RtsReturnsAfterTheCall : Prop :=
  ∀ (s t u : State) (w : Word),
    s.kindAt (stackAddr s.sp) = .ram → s.kindAt (stackAddr (s.sp - 1)) = .ram →
    exec (.jsr w) s = .next t → u.params = t.params → u.sp = t.sp →
    u.mem.read (stackAddr s.sp) = t.mem.read (stackAddr s.sp) →
    u.mem.read (stackAddr (s.sp - 1)) = t.mem.read (stackAddr (s.sp - 1)) →
    exec .rts u = .next { u with sp := s.sp, pc := s.pc + 3 }

/-- BRK and RTI together (R215, R217, R243), with RAM where BRK pushes and a bit of its own for each flag. -/
def Obligations.RtiReturnsAfterBrk : Prop :=
  ∀ (s t u : State), s.params.pLayout.distinct = true → StackIsRam s → exec .brk s = .next t → SameSavedBytes t u →
    exec .rti u = .next
      { u with
          sp := s.sp, pc := s.pc + BitVec.ofNat 16 s.params.brkPushOffset, flagC := s.flagC, flagZ := s.flagZ,
          flagI := s.flagI, flagD := s.flagD, flagV := s.flagV, flagN := s.flagN,
          flagB := s.flagB || decide (s.params.brkPushedB = .one) }

/-- Interrupt entry and RTI together (R237, R217, R243; logs 17 and 18), with RAM where the entry pushes and a bit of
its own for each flag: the interrupted instruction runs next, I is clear again. -/
def Obligations.InterruptEntryAndReturnRestoreTheProgram : Prop :=
  ∀ (s t u : State), s.params.pLayout.distinct = true → StackIsRam s →
    s.resetLine = false → s.nmiPending = false → s.irqLine = true → s.flagI = false →
    step s = .next t → SameSavedBytes t u →
    exec .rti u = .next
      { u with
          sp := s.sp, pc := s.pc, flagC := s.flagC, flagZ := s.flagZ, flagI := false, flagD := s.flagD,
          flagV := s.flagV, flagN := s.flagN, flagB := false }

/-- IRQ acceptance and its entry sequence (R236, R237). That the request is taken at the first boundary where it can
be is the model's choice among those R236 allows (log 17); the entry sequence is the spec's (R237; log 18). That a
read or store of a device address is recorded, and one to ROM ignored, is the model's choice (logs 15 and 26). -/
def Obligations.IrqIsServedAtTheBoundary : Prop :=
  ∀ (s : State), s.resetLine = false → s.nmiPending = false → s.irqLine = true →
    (s.flagI = false →
      ∃ u, u = { s with mem := u.mem, bus := u.bus, sp := s.sp - 3 } ∧ Stores s u (trapBytes s s.pc (s.packP false)) ∧
        step s = .next
          { (u.touch 0xFFFE).touch 0xFFFF with
              flagI := true, pc := joinBytes ((u.touch 0xFFFE).read 0xFFFF) (u.read 0xFFFE),
              cycles := s.cycles + 7 }) ∧
    (s.flagI = true → s.boundaryEvent = none)

/-- NMI, the spec's general knowledge (R240; log 18): latched on its edge, not masked by I. That edges which come
before the latch is served merge into one entry is the model's choice (log 27), and so is when a latched NMI is
taken, the next boundary (log 17). That a read or store of a device address is recorded, and one to ROM ignored,
is the model's choice (logs 15 and 26). -/
def Obligations.NmiIsLatchedOnItsEdgeAndServedOnce : Prop :=
  (∀ (s : State) (irq nmi reset : Bool),
      (s.driveLines irq nmi reset).nmiPending = (s.nmiPending || (nmi && !s.nmiLine)) ∧
      (s.driveLines irq nmi reset).nmiLine = nmi) ∧
    (∀ (s : State), s.resetLine = false → s.nmiPending = true →
      ∃ u, u = { s with mem := u.mem, bus := u.bus, sp := s.sp - 3 } ∧ Stores s u (trapBytes s s.pc (s.packP false)) ∧
        step s = .next
          { (u.touch 0xFFFA).touch 0xFFFB with
              flagI := true, nmiPending := false, cycles := s.cycles + 7,
              pc := joinBytes ((u.touch 0xFFFA).read 0xFFFB) (u.read 0xFFFA) })

/-- A run-time reset (R274, R271): served before every other event (R241). That the line is a level and that what
reset discards is a latched NMI are the model's reading (log 20). That a read or store of a device address is
recorded, and one to ROM ignored, is the model's choice (logs 15 and 26). -/
def Obligations.ResetIsServedFirst : Prop :=
  ∀ (s : State), s.resetLine = true →
    step s = .next
      { (s.touch 0xFFFC).touch 0xFFFD with
          flagI := true, pc := joinBytes ((s.touch 0xFFFC).read 0xFFFD) (s.read 0xFFFC), nmiPending := false }

/-- The order of simultaneous events, the spec's general knowledge (R241; log 18); events are taken at the first
boundary (log 17). -/
def Obligations.BoundaryPriority : Prop :=
  ∀ (s : State),
    (s.resetLine = true → s.boundaryEvent = some s.resetSequence) ∧
    (s.resetLine = false → s.nmiPending = true →
      s.boundaryEvent = some ({ s with nmiPending := false }.enterInterrupt 0xFFFA)) ∧
    (s.resetLine = false → s.nmiPending = false → s.irqLine = true → s.flagI = false →
      s.boundaryEvent = some (s.enterInterrupt 0xFFFE)) ∧
    (s.resetLine = false → s.nmiPending = false → (s.irqLine = false ∨ s.flagI = true) → s.boundaryEvent = none) ∧
    (∀ t, s.boundaryEvent = some t → step s = .next t)

/-- What the spec gives for reset (R34, R271, R239); no value that the model chose (log 1, log 2). -/
def Obligations.ResetStateIsAsTheSpecSays : Prop :=
  State.reset.flagI = true ∧
    State.reset.pc = joinBytes (State.reset.read 0xFFFD) (State.reset.read 0xFFFC) ∧
    State.reset.irqLine = false ∧ State.reset.nmiLine = false ∧ State.reset.nmiPending = false ∧
    State.reset.resetLine = false

/-- The spec's "any value" for memory (R34, R273): a statement about every state is about every content of memory. -/
def Obligations.EveryLaunchMemoryIsRepresentable : Prop :=
  ∀ f : Word → Byte, ∃ m : Memory, m.wf = true ∧ ∀ a : Word, m.read a = f a

/-- The canonical form: equal contents are equal data. The form is the model's own way of holding memory (log 2). -/
def Obligations.CanonicalMemoriesAreDeterminedByReads : Prop :=
  ∀ m n : Memory, m.wf = true → n.wf = true → (∀ a : Word, m.read a = n.read a) → m = n

/-- One step is one whole instruction (R9): the bytes at PC are decoded and executed; the ghost count is charged (log
21). The second clause covers instruction bytes at device addresses, read in order (R55; log 26). The third is the
model's choice under the NMOS setting of ILLEGAL_OPCODE (log 19). -/
def Obligations.StepRunsTheDecodedInstruction : Prop :=
  ∀ s : State, NoBoundaryEvent s →
    (∀ (i : Instr) (rest : List Byte), CodeIsMemory s →
      decode [s.mem.read s.pc, s.mem.read (s.pc + 1), s.mem.read (s.pc + 2)] = .ok (i, rest) → WellFormed i →
      (∀ t, exec i s = .next t → step s = .next { t with cycles := t.cycles + instrCycles i s }) ∧
      (∀ r, exec i s = .refused r → step s = .refused r)) ∧
    (∀ (i : Instr) (u : State), loadBytes i.length s.pc s = (encode i, u) →
      (∀ t, exec i u = .next t → step s = .next { t with cycles := t.cycles + instrCycles i u }) ∧
      (∀ r, exec i u = .refused r → step s = .refused r)) ∧
    (lookupOpcode (s.read s.pc) = none →
      step s = .refused
        (match s.params.illegalOpcode with
         | .refuse => .unlistedOpcode (s.read s.pc)
         | .undocumented => .undocumentedOperation (s.read s.pc)))

/-- The 105 bytes that are no instruction (R95): refused by name, no NOP, no trap, no length. -/
def Obligations.UnlistedOpcodesAreRefused : Prop :=
  ∀ (s : State) (op : Byte),
    (lookupOpcode op = none ↔ op ∈ (
      [0x02, 0x03, 0x04, 0x07, 0x0B, 0x0C, 0x0F, 0x12, 0x13, 0x14, 0x17, 0x1A, 0x1B, 0x1C, 0x1F, 0x22, 0x23,
       0x27, 0x2B, 0x2F, 0x32, 0x33, 0x34, 0x37, 0x3A, 0x3B, 0x3C, 0x3F, 0x42, 0x43, 0x44, 0x47, 0x4B, 0x4F,
       0x52, 0x53, 0x54, 0x57, 0x5A, 0x5B, 0x5C, 0x5F, 0x62, 0x63, 0x64, 0x67, 0x6B, 0x6F, 0x72, 0x73, 0x74,
       0x77, 0x7A, 0x7B, 0x7C, 0x7F, 0x80, 0x82, 0x83, 0x87, 0x89, 0x8B, 0x8F, 0x92, 0x93, 0x97, 0x9B, 0x9C,
       0x9E, 0x9F, 0xA3, 0xA7, 0xAB, 0xAF, 0xB2, 0xB3, 0xB7, 0xBB, 0xBF, 0xC2, 0xC3, 0xC7, 0xCB, 0xCF, 0xD2,
       0xD3, 0xD4, 0xD7, 0xDA, 0xDB, 0xDC, 0xDF, 0xE2, 0xE3, 0xE7, 0xEB, 0xEF, 0xF2, 0xF3, 0xF4, 0xF7, 0xFA,
       0xFB, 0xFC, 0xFF] : List Byte)) ∧
    (lookupOpcode op = none → ∀ rest, decode (op :: rest) = .error (.unlistedOpcode op)) ∧
    (NoBoundaryEvent s → s.params.illegalOpcode = .refuse → s.read s.pc = op → lookupOpcode op = none →
      step s = .refused (.unlistedOpcode op))

/-- Decode undoes encode, for every instruction, every operand and whatever follows. -/
def Obligations.DecodeOfEncodeIsTheInstruction : Prop :=
  ∀ (i : Instr) (rest : List Byte), WellFormed i → decode (encode i ++ rest) = .ok (i, rest)

/-- Encode undoes decode: each byte string has one meaning, and every decoded instruction is well formed (R96). -/
def Obligations.EncodeOfDecodeIsTheBytes : Prop :=
  ∀ (bytes rest : List Byte) (i : Instr), decode bytes = .ok (i, rest) → WellFormed i ∧ bytes = encode i ++ rest

/-- A few words of 95_test_vectors.md section 1.2, written out. -/
def Obligations.SampleWordsDecode : Prop :=
  decode [0b10101001, 0x0A] = .ok (.ldaImm 0x0A, []) ∧
    decode [0b10011101, 0x00, 0x30] = .ok (.staAbx 0x3000, []) ∧
    decode [0b10010001, 0x60] = .ok (.staIzy 0x60, []) ∧
    decode [0b01111110, 0x00, 0x03] = .ok (.rorAbx 0x0300, []) ∧
    decode [0b01101100, 0xFC, 0xFF] = .ok (.jmpInd 0xFFFC, []) ∧
    decode [0b11010000, 0x02] = .ok (.bne 0x02, []) ∧
    decode [0b00000000] = .ok (.brk, []) ∧
    decode [0b00000010] = .error (.unlistedOpcode 0x02)

/-- The invariant: memory keeps its canonical form in every step, boundary events included.
The form is the model's own way of holding memory (log 2). -/
def Obligations.EveryStepKeepsCanonicalMemory : Prop :=
  ∀ s t : State, CanonicalMemory s → step s = .next t → CanonicalMemory t

/-- The invariant holds after reset. The form is the model's own way of holding memory (log 2). -/
def Obligations.ResetMemoryIsCanonical : Prop :=
  CanonicalMemory State.reset

/-- No step changes a parameter (log 6) or a line the host drives (R33, R235; log 17), none raises
an NMI, and none takes anything back from the record of device accesses (log 26). -/
def Obligations.StepLeavesParametersAndLinesAlone : Prop :=
  ∀ s t : State, step s = .next t →
    t.params = s.params ∧ t.irqLine = s.irqLine ∧ t.nmiLine = s.nmiLine ∧ t.resetLine = s.resetLine ∧
    (s.nmiPending = false → t.nmiPending = false) ∧ s.bus <:+ t.bus

/-- Which instructions write which flag (R20 to R31), over the whole instruction set. -/
def Obligations.FlagEffectsTable : Prop :=
  ∀ (i : Instr) (s t : State), exec i s = .next t →
    (i.mnemonic ∉ ([.adc, .sbc, .cmp, .cpx, .cpy, .asl, .lsr, .rol, .ror, .clc, .sec, .plp, .rti] : List Mnemonic) →
      t.flagC = s.flagC) ∧
    (i.mnemonic ∉ ([.lda, .ldx, .ldy, .tax, .tay, .txa, .tya, .tsx, .pla, .and, .eor, .ora, .adc, .sbc, .cmp, .cpx, .cpy,
        .inc, .inx, .iny, .dec, .dex, .dey, .asl, .lsr, .rol, .ror, .bit, .plp, .rti] : List Mnemonic) → t.flagZ = s.flagZ ∧ t.flagN = s.flagN) ∧
    (i.mnemonic ∉ ([.cli, .sei, .plp, .rti, .brk] : List Mnemonic) → t.flagI = s.flagI) ∧
    (i.mnemonic ∉ ([.cld, .sed, .plp, .rti] : List Mnemonic) → t.flagD = s.flagD) ∧
    (i.mnemonic ∉ ([.brk, .plp, .rti] : List Mnemonic) → t.flagB = s.flagB) ∧
    (i.mnemonic ∉ ([.adc, .sbc, .bit, .clv, .plp, .rti] : List Mnemonic) → t.flagV = s.flagV) ∧
    (i.mnemonic = .brk → t.flagB = true ∧ t.flagI = (s.flagI || s.params.brkSetsI)) ∧
    (i.mnemonic = .plp ∨ i.mnemonic = .rti →
      let v := s.read (stackAddr (s.sp + 1))
      let l := s.params.pLayout
      t.flagN = v.getLsbD l.n ∧ t.flagV = v.getLsbD l.v ∧ t.flagB = v.getLsbD l.b ∧ t.flagD = v.getLsbD l.d ∧
      t.flagI = v.getLsbD l.i ∧ t.flagZ = v.getLsbD l.z ∧ t.flagC = v.getLsbD l.c)

/-- Which instructions write which register, memory, and PC otherwise than by advancing (R10 to R14, R52). -/
def Obligations.RegisterWritersTable : Prop :=
  ∀ (i : Instr) (s t : State), exec i s = .next t →
    (i.mnemonic ∉ ([.lda, .pla, .txa, .tya, .adc, .sbc, .and, .eor, .ora] : List Mnemonic) → i.mode ≠ .acc → t.a = s.a) ∧
    (i.mnemonic ∉ ([.ldx, .tax, .tsx, .inx, .dex] : List Mnemonic) → t.x = s.x) ∧
    (i.mnemonic ∉ ([.ldy, .tay, .iny, .dey] : List Mnemonic) → t.y = s.y) ∧
    (i.mnemonic ∉ ([.txs, .pha, .php, .pla, .plp, .jsr, .rts, .brk, .rti] : List Mnemonic) → t.sp = s.sp) ∧
    (i.mnemonic ∉ ([.sta, .stx, .sty, .inc, .dec, .asl, .lsr, .rol, .ror, .pha, .php, .jsr, .brk] : List Mnemonic) ∨ i.mode = .acc →
      t.mem = s.mem) ∧
    (i.mnemonic ∉ ([.jmp, .jsr, .rts, .rti, .brk, .bcc, .bcs, .beq, .bmi, .bne, .bpl, .bvc, .bvs] : List Mnemonic) →
      t.pc = s.pc + BitVec.ofNat 16 i.length)

/-- The machine has no fault, one mode, and every instruction is available at all times (R230, R246); the parameter's
refusal is R145's (log 4). -/
def Obligations.EveryInstructionCompletesUnlessDecimalIsRefused : Prop :=
  ∀ (i : Instr) (s : State), (¬ DecimalRefused i s ↔ ∃ t, exec i s = .next t) ∧
    (DecimalRefused i s ↔ exec i s = .refused .decimalModeNotSpecified)

/-- Cycle counts are timing only (R290): no register, flag, byte or outcome depends on the ghost count. -/
def Obligations.CyclesNeverInfluenceTheMachine : Prop :=
  ∀ (s : State) (k : Nat),
    step { s with cycles := s.cycles + k } =
      match step s with
      | .next t => .next { t with cycles := t.cycles + k }
      | .fault f => .fault f
      | .refused r => .refused r

/-- Page crossing (R292): a carry out of the low byte, or a changed high byte (the wrap included). -/
def Obligations.PageCrossingIsACarryOutOfTheLowByte : Prop :=
  ∀ (base : Word) (index : Byte),
    (pageCrossed base index = true ↔ 256 ≤ base.toNat % 256 + index.toNat) ∧
    (pageCrossed base index = true ↔ hiByte (base + index.setWidth 16) ≠ hiByte base)

/-- The end of a run (R295): a JMP Absolute to itself changes no register, flag or byte; the ghost count rises (log
21). What ends a run is the parameter HALT_CONDITION (log 22). -/
def Obligations.SelfJumpIsAFixedPoint : Prop :=
  ∀ s : State,
    (NoBoundaryEvent s → AtSelfJump s → step s = .next { s with cycles := s.cycles + 3 }) ∧
    (AtSelfJump s → .selfJump ∈ s.params.haltConditions → ∀ n, runUntilHalt n s = .ended s) ∧
    (.pcAt s.pc ∈ s.params.haltConditions → ∀ n, runUntilHalt n s = .ended s) ∧
    (NoBoundaryEvent s → s.kindAt s.pc ≠ .device → s.mem.read s.pc = 0x00 → .brk ∈ s.params.haltConditions →
      ∀ n, runUntilHalt n s = .ended s) ∧
    (s.params.haltConditions = [] → ∀ n t, runUntilHalt n s ≠ .ended t)

/-- Fetch coherence (R58): a store to RAM is seen by the fetch of the very next instruction. -/
def Obligations.StoredBytesAreFetchedNext : Prop :=
  ∀ s : State, s.kindAt (s.pc + 3) = .ram →
    ∃ t, exec (.staAbs (s.pc + 3)) s = .next t ∧ t.pc = s.pc + 3 ∧ t.read t.pc = s.a ∧
    (∀ i, lookupOpcode s.a = some (.f1 i) → fetch t = .ok (i, t))

/-- A branch is written with its target (R99). That the distance is taken modulo 65536, so that a branch across 0xFFFF
assembles, is the model's choice (log 24). -/
def Obligations.AssemblerStoresBranchOffsets : Prop :=
  ∀ (addr target : Word) (b : Byte),
    (branchOffset addr target = some b ↔ target = addr + 2 + b.signExtend 16) ∧
    (branchOffset addr target = none ↔ (target - addr).toInt < -126 ∨ 129 < (target - addr).toInt)

/-- Every instruction is reached by its mnemonic, mode and operand (R93, R102), and all operand values are legal
(R96). -/
def Obligations.WrittenInstructionsAssembleToThemselves : Prop :=
  ∀ i : Instr, WellFormed i ∧ i.toLine.toInstr = some i

/-- The parameter MEM_MAP (R44, R45, R46, R54). That a write to ROM is ignored (log 15), and that a device answers
from the address and the accesses before it, which State records (log 26), are the model's form of the platform's
functions. -/
def Obligations.EveryStepRespectsTheMemoryMap : Prop :=
  ∀ s : State,
    (∀ (addr : Word) (v : Byte),
      (s.kindAt addr = .ram → s.read addr = s.mem.read addr ∧ s.touch addr = s ∧
        s.store addr v = { s with mem := s.mem.write addr v }) ∧
      (s.kindAt addr = .rom → s.read addr = s.mem.read addr ∧ s.touch addr = s ∧ s.store addr v = s) ∧
      (s.kindAt addr = .device → s.read addr = Config.deviceRead addr s.bus ∧
        s.touch addr = { s with bus := .read addr :: s.bus } ∧
        s.store addr v = { s with bus := .write addr v :: s.bus })) ∧
    (s.params.memMap = [] → ∀ addr, s.kindAt addr = .ram) ∧
    (∀ (r : Region) (m : MemMap) (addr : Word), s.params.memMap = r :: m →
      s.kindAt addr = if r.first.toNat ≤ addr.toNat ∧ addr.toNat ≤ r.last.toNat then r.kind else m.kindAt addr) ∧
    (∀ t, step s = .next t →
      (∀ addr, s.kindAt addr ≠ .ram → t.mem.read addr = s.mem.read addr) ∧
      (∃ new, t.bus = new ++ s.bus ∧ ∀ e ∈ new, s.kindAt e.addr = .device))
end

