-- ==== Sys2Proof/Laws/Memory.lean ====
section
/-! SUPPORT. Laws of memory: a read after a write, and that every memory operation keeps the canonical form. -/

namespace Sys2Proof.Machine

/-! ### Reading -/

@[simp] theorem Memory.read_blank (addr : Word) : Memory.blank.read addr = Memory.unlisted := rfl

theorem Memory.read_nil (addr : Word) : Memory.read [] addr = Memory.unlisted := rfl

theorem Memory.read_cons (c : Host.Cell) (m : Memory) (addr : Word) :
    Memory.read (c :: m) addr = if c.1 = addr.toNat then c.2 else Memory.read m addr := by
  by_cases h : c.1 = addr.toNat
  · simp [Memory.read, h]
  · have hb : (c.1 == addr.toNat) = false := by simpa using h
    simp only [Memory.read, List.find?_cons, hb, h, if_false]

theorem Memory.read_insertCell (c : Host.Cell) (m : Memory) (addr : Word) (hc : ∀ d ∈ m, d.1 ≠ c.1) :
    Memory.read (Memory.insertCell c m) addr = if c.1 = addr.toNat then c.2 else Memory.read m addr := by
  induction m with
  | nil => simp only [Memory.insertCell, Memory.read_cons]
  | cons d m ih =>
    have hd : d.1 ≠ c.1 := hc d (by simp)
    have ih' := ih (fun e he => hc e (by simp [he]))
    by_cases hlt : c.1 < d.1
    · simp only [Memory.insertCell, if_pos hlt, Memory.read_cons]
    · simp only [Memory.insertCell, if_neg hlt, Memory.read_cons, ih']
      by_cases h1 : d.1 = addr.toNat
      · have : c.1 ≠ addr.toNat := fun h => hd (h1.trans h.symm)
        simp [h1, this]
      · simp [h1]

theorem Memory.erase_ne {m : Memory} {addr : Word} {d : Host.Cell} (h : d ∈ m.erase addr) : d.1 ≠ addr.toNat := by
  simpa using (List.mem_filter.mp h).2

theorem Memory.read_erase_same (m : Memory) (addr : Word) : (m.erase addr).read addr = Memory.unlisted := by
  induction m with
  | nil => rfl
  | cons c m ih =>
    by_cases h : c.1 = addr.toNat
    · have : Memory.erase (c :: m) addr = Memory.erase m addr := by simp [Memory.erase, h]
      rw [this, ih]
    · have : Memory.erase (c :: m) addr = c :: Memory.erase m addr := by simp [Memory.erase, h]
      rw [this, Memory.read_cons, if_neg h, ih]

theorem Memory.read_erase_ne (m : Memory) {addr b : Word} (hb : b ≠ addr) : (m.erase addr).read b = m.read b := by
  have hn : b.toNat ≠ addr.toNat := fun h => hb (BitVec.eq_of_toNat_eq h)
  induction m with
  | nil => rfl
  | cons c m ih =>
    by_cases h : c.1 = addr.toNat
    · have : Memory.erase (c :: m) addr = Memory.erase m addr := by simp [Memory.erase, h]
      rw [this, ih, Memory.read_cons, if_neg (by rw [h]; exact fun e => hn e.symm)]
    · have : Memory.erase (c :: m) addr = c :: Memory.erase m addr := by simp [Memory.erase, h]
      rw [this, Memory.read_cons, Memory.read_cons, ih]

/-- A read of the address written gives the byte written. -/
@[simp] theorem Memory.read_write_same (m : Memory) (addr : Word) (v : Byte) : (m.write addr v).read addr = v := by
  unfold Memory.write
  split
  · rename_i h; rw [Memory.read_erase_same, h]
  · rw [Memory.read_insertCell _ _ _ (fun d hd => Memory.erase_ne hd), if_pos rfl]

/-- A write leaves every other address alone. -/
theorem Memory.read_write_ne (m : Memory) {addr b : Word} (v : Byte) (hb : b ≠ addr) :
    (m.write addr v).read b = m.read b := by
  unfold Memory.write
  split
  · exact Memory.read_erase_ne m hb
  · rw [Memory.read_insertCell _ _ _ (fun d hd => Memory.erase_ne hd), if_neg, Memory.read_erase_ne m hb]
    exact fun h => hb (BitVec.eq_of_toNat_eq h.symm)

/-- What a read gives after a write, in one equation. -/
theorem Memory.read_write (m : Memory) (addr b : Word) (v : Byte) :
    (m.write addr v).read b = if b = addr then v else m.read b := by
  split
  · rename_i h; rw [h, Memory.read_write_same]
  · rename_i h; exact Memory.read_write_ne m v h

/-! ### The canonical form -/

theorem Memory.wfFrom_cons {low : Nat} {c : Host.Cell} {m : Memory} :
    Memory.wfFrom low (c :: m) = true ↔
      low ≤ c.1 ∧ c.1 < 65536 ∧ c.2 ≠ Memory.unlisted ∧ Memory.wfFrom (c.1 + 1) m = true := by
  simp [Memory.wfFrom, and_assoc]

theorem Memory.wfFrom_mono {low low' : Nat} {m : Memory} (h : Memory.wfFrom low m = true) (hl : low' ≤ low) :
    Memory.wfFrom low' m = true := by
  cases m with
  | nil => rfl
  | cons c m =>
    rw [Memory.wfFrom_cons] at h ⊢
    exact ⟨hl.trans h.1, h.2⟩

theorem Memory.wfFrom_erase {low : Nat} {m : Memory} (addr : Word) (h : Memory.wfFrom low m = true) :
    Memory.wfFrom low (m.erase addr) = true := by
  induction m generalizing low with
  | nil => rfl
  | cons c m ih =>
    rw [Memory.wfFrom_cons] at h
    by_cases hc : c.1 = addr.toNat
    · have : Memory.erase (c :: m) addr = Memory.erase m addr := by simp [Memory.erase, hc]
      rw [this]
      exact ih (Memory.wfFrom_mono h.2.2.2 (by omega))
    · have : Memory.erase (c :: m) addr = c :: Memory.erase m addr := by simp [Memory.erase, hc]
      rw [this, Memory.wfFrom_cons]
      exact ⟨h.1, h.2.1, h.2.2.1, ih h.2.2.2⟩

theorem Memory.wfFrom_insertCell {low : Nat} {c : Host.Cell} {m : Memory} (hlow : low ≤ c.1) (hc : c.1 < 65536)
    (hv : c.2 ≠ Memory.unlisted) (hne : ∀ d ∈ m, d.1 ≠ c.1) (h : Memory.wfFrom low m = true) :
    Memory.wfFrom low (Memory.insertCell c m) = true := by
  induction m generalizing low with
  | nil => rw [Memory.insertCell, Memory.wfFrom_cons]; exact ⟨hlow, hc, hv, rfl⟩
  | cons d m ih =>
    rw [Memory.wfFrom_cons] at h
    by_cases hlt : c.1 < d.1
    · rw [Memory.insertCell, if_pos hlt, Memory.wfFrom_cons, Memory.wfFrom_cons]
      exact ⟨hlow, hc, hv, hlt, h.2⟩
    · have hd : d.1 ≠ c.1 := hne d (by simp)
      rw [Memory.insertCell, if_neg hlt, Memory.wfFrom_cons]
      exact ⟨h.1, h.2.1, h.2.2.1, ih (by omega) (fun e he => hne e (by simp [he])) h.2.2.2⟩

@[simp] theorem Memory.wf_blank : Memory.blank.wf = true := rfl

theorem Memory.erase_wf {m : Memory} (addr : Word) (h : m.wf = true) : (m.erase addr).wf = true :=
  Memory.wfFrom_erase addr h

/-- A write keeps the canonical form. -/
theorem Memory.write_wf {m : Memory} (addr : Word) (v : Byte) (h : m.wf = true) : (m.write addr v).wf = true := by
  unfold Memory.write
  split
  · exact Memory.erase_wf addr h
  · rename_i hv
    exact Memory.wfFrom_insertCell (Nat.zero_le _) addr.isLt hv (fun d hd => Memory.erase_ne hd) (Memory.erase_wf addr h)

end Sys2Proof.Machine
end

