-- ==== Sys2Proof/Laws/State.lean ====
section
/-! SUPPORT. One lemma per field of State per update, so that no proof unfolds a record update; then the same for the
operations made of several updates. -/

namespace Sys2Proof.Machine

@[simp] theorem State.touch_a (s : State) (addr : Word) : (s.touch addr).a = s.a := rfl
@[simp] theorem State.touch_x (s : State) (addr : Word) : (s.touch addr).x = s.x := rfl
@[simp] theorem State.touch_y (s : State) (addr : Word) : (s.touch addr).y = s.y := rfl
@[simp] theorem State.touch_sp (s : State) (addr : Word) : (s.touch addr).sp = s.sp := rfl
@[simp] theorem State.touch_pc (s : State) (addr : Word) : (s.touch addr).pc = s.pc := rfl
@[simp] theorem State.touch_flagC (s : State) (addr : Word) : (s.touch addr).flagC = s.flagC := rfl
@[simp] theorem State.touch_flagZ (s : State) (addr : Word) : (s.touch addr).flagZ = s.flagZ := rfl
@[simp] theorem State.touch_flagI (s : State) (addr : Word) : (s.touch addr).flagI = s.flagI := rfl
@[simp] theorem State.touch_flagD (s : State) (addr : Word) : (s.touch addr).flagD = s.flagD := rfl
@[simp] theorem State.touch_flagB (s : State) (addr : Word) : (s.touch addr).flagB = s.flagB := rfl
@[simp] theorem State.touch_flagV (s : State) (addr : Word) : (s.touch addr).flagV = s.flagV := rfl
@[simp] theorem State.touch_flagN (s : State) (addr : Word) : (s.touch addr).flagN = s.flagN := rfl
@[simp] theorem State.touch_mem (s : State) (addr : Word) : (s.touch addr).mem = s.mem := rfl
@[simp] theorem State.touch_bus (s : State) (addr : Word) :
    (s.touch addr).bus = if s.kindAt addr = .device then .read addr :: s.bus else s.bus := rfl
@[simp] theorem State.touch_irqLine (s : State) (addr : Word) : (s.touch addr).irqLine = s.irqLine := rfl
@[simp] theorem State.touch_nmiLine (s : State) (addr : Word) : (s.touch addr).nmiLine = s.nmiLine := rfl
@[simp] theorem State.touch_nmiPending (s : State) (addr : Word) : (s.touch addr).nmiPending = s.nmiPending := rfl
@[simp] theorem State.touch_resetLine (s : State) (addr : Word) : (s.touch addr).resetLine = s.resetLine := rfl
@[simp] theorem State.touch_params (s : State) (addr : Word) : (s.touch addr).params = s.params := rfl
@[simp] theorem State.touch_cycles (s : State) (addr : Word) : (s.touch addr).cycles = s.cycles := rfl
@[simp] theorem State.touch_draws (s : State) (addr : Word) : (s.touch addr).draws = s.draws := rfl

@[simp] theorem State.store_a (s : State) (addr : Word) (v : Byte) : (s.store addr v).a = s.a := rfl
@[simp] theorem State.store_x (s : State) (addr : Word) (v : Byte) : (s.store addr v).x = s.x := rfl
@[simp] theorem State.store_y (s : State) (addr : Word) (v : Byte) : (s.store addr v).y = s.y := rfl
@[simp] theorem State.store_sp (s : State) (addr : Word) (v : Byte) : (s.store addr v).sp = s.sp := rfl
@[simp] theorem State.store_pc (s : State) (addr : Word) (v : Byte) : (s.store addr v).pc = s.pc := rfl
@[simp] theorem State.store_flagC (s : State) (addr : Word) (v : Byte) : (s.store addr v).flagC = s.flagC := rfl
@[simp] theorem State.store_flagZ (s : State) (addr : Word) (v : Byte) : (s.store addr v).flagZ = s.flagZ := rfl
@[simp] theorem State.store_flagI (s : State) (addr : Word) (v : Byte) : (s.store addr v).flagI = s.flagI := rfl
@[simp] theorem State.store_flagD (s : State) (addr : Word) (v : Byte) : (s.store addr v).flagD = s.flagD := rfl
@[simp] theorem State.store_flagB (s : State) (addr : Word) (v : Byte) : (s.store addr v).flagB = s.flagB := rfl
@[simp] theorem State.store_flagV (s : State) (addr : Word) (v : Byte) : (s.store addr v).flagV = s.flagV := rfl
@[simp] theorem State.store_flagN (s : State) (addr : Word) (v : Byte) : (s.store addr v).flagN = s.flagN := rfl
@[simp] theorem State.store_mem (s : State) (addr : Word) (v : Byte) :
    (s.store addr v).mem = if s.kindAt addr = .ram then s.mem.write addr v else s.mem := rfl
@[simp] theorem State.store_bus (s : State) (addr : Word) (v : Byte) :
    (s.store addr v).bus = if s.kindAt addr = .device then .write addr v :: s.bus else s.bus := rfl
@[simp] theorem State.store_irqLine (s : State) (addr : Word) (v : Byte) : (s.store addr v).irqLine = s.irqLine := rfl
@[simp] theorem State.store_nmiLine (s : State) (addr : Word) (v : Byte) : (s.store addr v).nmiLine = s.nmiLine := rfl
@[simp] theorem State.store_nmiPending (s : State) (addr : Word) (v : Byte) :
    (s.store addr v).nmiPending = s.nmiPending := rfl
@[simp] theorem State.store_resetLine (s : State) (addr : Word) (v : Byte) :
    (s.store addr v).resetLine = s.resetLine := rfl
@[simp] theorem State.store_params (s : State) (addr : Word) (v : Byte) : (s.store addr v).params = s.params := rfl
@[simp] theorem State.store_cycles (s : State) (addr : Word) (v : Byte) : (s.store addr v).cycles = s.cycles := rfl
@[simp] theorem State.store_draws (s : State) (addr : Word) (v : Byte) : (s.store addr v).draws = s.draws := rfl

@[simp] theorem State.poke_a (s : State) (addr : Word) (v : Byte) : (s.poke addr v).a = s.a := rfl
@[simp] theorem State.poke_x (s : State) (addr : Word) (v : Byte) : (s.poke addr v).x = s.x := rfl
@[simp] theorem State.poke_y (s : State) (addr : Word) (v : Byte) : (s.poke addr v).y = s.y := rfl
@[simp] theorem State.poke_sp (s : State) (addr : Word) (v : Byte) : (s.poke addr v).sp = s.sp := rfl
@[simp] theorem State.poke_pc (s : State) (addr : Word) (v : Byte) : (s.poke addr v).pc = s.pc := rfl
@[simp] theorem State.poke_flagC (s : State) (addr : Word) (v : Byte) : (s.poke addr v).flagC = s.flagC := rfl
@[simp] theorem State.poke_flagZ (s : State) (addr : Word) (v : Byte) : (s.poke addr v).flagZ = s.flagZ := rfl
@[simp] theorem State.poke_flagI (s : State) (addr : Word) (v : Byte) : (s.poke addr v).flagI = s.flagI := rfl
@[simp] theorem State.poke_flagD (s : State) (addr : Word) (v : Byte) : (s.poke addr v).flagD = s.flagD := rfl
@[simp] theorem State.poke_flagB (s : State) (addr : Word) (v : Byte) : (s.poke addr v).flagB = s.flagB := rfl
@[simp] theorem State.poke_flagV (s : State) (addr : Word) (v : Byte) : (s.poke addr v).flagV = s.flagV := rfl
@[simp] theorem State.poke_flagN (s : State) (addr : Word) (v : Byte) : (s.poke addr v).flagN = s.flagN := rfl
@[simp] theorem State.poke_mem (s : State) (addr : Word) (v : Byte) : (s.poke addr v).mem = s.mem.write addr v := rfl
@[simp] theorem State.poke_bus (s : State) (addr : Word) (v : Byte) : (s.poke addr v).bus = s.bus := rfl
@[simp] theorem State.poke_irqLine (s : State) (addr : Word) (v : Byte) : (s.poke addr v).irqLine = s.irqLine := rfl
@[simp] theorem State.poke_nmiLine (s : State) (addr : Word) (v : Byte) : (s.poke addr v).nmiLine = s.nmiLine := rfl
@[simp] theorem State.poke_nmiPending (s : State) (addr : Word) (v : Byte) :
    (s.poke addr v).nmiPending = s.nmiPending := rfl
@[simp] theorem State.poke_resetLine (s : State) (addr : Word) (v : Byte) :
    (s.poke addr v).resetLine = s.resetLine := rfl
@[simp] theorem State.poke_params (s : State) (addr : Word) (v : Byte) : (s.poke addr v).params = s.params := rfl
@[simp] theorem State.poke_cycles (s : State) (addr : Word) (v : Byte) : (s.poke addr v).cycles = s.cycles := rfl
@[simp] theorem State.poke_draws (s : State) (addr : Word) (v : Byte) : (s.poke addr v).draws = s.draws := rfl

@[simp] theorem State.advance_a (s : State) (len : Word) : (s.advance len).a = s.a := rfl
@[simp] theorem State.advance_x (s : State) (len : Word) : (s.advance len).x = s.x := rfl
@[simp] theorem State.advance_y (s : State) (len : Word) : (s.advance len).y = s.y := rfl
@[simp] theorem State.advance_sp (s : State) (len : Word) : (s.advance len).sp = s.sp := rfl
@[simp] theorem State.advance_pc (s : State) (len : Word) : (s.advance len).pc = s.pc + len := rfl
@[simp] theorem State.advance_flagC (s : State) (len : Word) : (s.advance len).flagC = s.flagC := rfl
@[simp] theorem State.advance_flagZ (s : State) (len : Word) : (s.advance len).flagZ = s.flagZ := rfl
@[simp] theorem State.advance_flagI (s : State) (len : Word) : (s.advance len).flagI = s.flagI := rfl
@[simp] theorem State.advance_flagD (s : State) (len : Word) : (s.advance len).flagD = s.flagD := rfl
@[simp] theorem State.advance_flagB (s : State) (len : Word) : (s.advance len).flagB = s.flagB := rfl
@[simp] theorem State.advance_flagV (s : State) (len : Word) : (s.advance len).flagV = s.flagV := rfl
@[simp] theorem State.advance_flagN (s : State) (len : Word) : (s.advance len).flagN = s.flagN := rfl
@[simp] theorem State.advance_mem (s : State) (len : Word) : (s.advance len).mem = s.mem := rfl
@[simp] theorem State.advance_bus (s : State) (len : Word) : (s.advance len).bus = s.bus := rfl
@[simp] theorem State.advance_irqLine (s : State) (len : Word) : (s.advance len).irqLine = s.irqLine := rfl
@[simp] theorem State.advance_nmiLine (s : State) (len : Word) : (s.advance len).nmiLine = s.nmiLine := rfl
@[simp] theorem State.advance_nmiPending (s : State) (len : Word) : (s.advance len).nmiPending = s.nmiPending := rfl
@[simp] theorem State.advance_resetLine (s : State) (len : Word) : (s.advance len).resetLine = s.resetLine := rfl
@[simp] theorem State.advance_params (s : State) (len : Word) : (s.advance len).params = s.params := rfl
@[simp] theorem State.advance_cycles (s : State) (len : Word) : (s.advance len).cycles = s.cycles := rfl
@[simp] theorem State.advance_draws (s : State) (len : Word) : (s.advance len).draws = s.draws := rfl

@[simp] theorem State.setZN_a (s : State) (v : Byte) : (s.setZN v).a = s.a := rfl
@[simp] theorem State.setZN_x (s : State) (v : Byte) : (s.setZN v).x = s.x := rfl
@[simp] theorem State.setZN_y (s : State) (v : Byte) : (s.setZN v).y = s.y := rfl
@[simp] theorem State.setZN_sp (s : State) (v : Byte) : (s.setZN v).sp = s.sp := rfl
@[simp] theorem State.setZN_pc (s : State) (v : Byte) : (s.setZN v).pc = s.pc := rfl
@[simp] theorem State.setZN_flagC (s : State) (v : Byte) : (s.setZN v).flagC = s.flagC := rfl
@[simp] theorem State.setZN_flagZ (s : State) (v : Byte) : (s.setZN v).flagZ = (v == 0) := rfl
@[simp] theorem State.setZN_flagI (s : State) (v : Byte) : (s.setZN v).flagI = s.flagI := rfl
@[simp] theorem State.setZN_flagD (s : State) (v : Byte) : (s.setZN v).flagD = s.flagD := rfl
@[simp] theorem State.setZN_flagB (s : State) (v : Byte) : (s.setZN v).flagB = s.flagB := rfl
@[simp] theorem State.setZN_flagV (s : State) (v : Byte) : (s.setZN v).flagV = s.flagV := rfl
@[simp] theorem State.setZN_flagN (s : State) (v : Byte) : (s.setZN v).flagN = v.msb := rfl
@[simp] theorem State.setZN_mem (s : State) (v : Byte) : (s.setZN v).mem = s.mem := rfl
@[simp] theorem State.setZN_bus (s : State) (v : Byte) : (s.setZN v).bus = s.bus := rfl
@[simp] theorem State.setZN_irqLine (s : State) (v : Byte) : (s.setZN v).irqLine = s.irqLine := rfl
@[simp] theorem State.setZN_nmiLine (s : State) (v : Byte) : (s.setZN v).nmiLine = s.nmiLine := rfl
@[simp] theorem State.setZN_nmiPending (s : State) (v : Byte) : (s.setZN v).nmiPending = s.nmiPending := rfl
@[simp] theorem State.setZN_resetLine (s : State) (v : Byte) : (s.setZN v).resetLine = s.resetLine := rfl
@[simp] theorem State.setZN_params (s : State) (v : Byte) : (s.setZN v).params = s.params := rfl
@[simp] theorem State.setZN_cycles (s : State) (v : Byte) : (s.setZN v).cycles = s.cycles := rfl
@[simp] theorem State.setZN_draws (s : State) (v : Byte) : (s.setZN v).draws = s.draws := rfl

@[simp] theorem State.push_a (s : State) (v : Byte) : (s.push v).a = s.a := rfl
@[simp] theorem State.push_x (s : State) (v : Byte) : (s.push v).x = s.x := rfl
@[simp] theorem State.push_y (s : State) (v : Byte) : (s.push v).y = s.y := rfl
@[simp] theorem State.push_sp (s : State) (v : Byte) : (s.push v).sp = s.sp - 1 := rfl
@[simp] theorem State.push_pc (s : State) (v : Byte) : (s.push v).pc = s.pc := rfl
@[simp] theorem State.push_flagC (s : State) (v : Byte) : (s.push v).flagC = s.flagC := rfl
@[simp] theorem State.push_flagZ (s : State) (v : Byte) : (s.push v).flagZ = s.flagZ := rfl
@[simp] theorem State.push_flagI (s : State) (v : Byte) : (s.push v).flagI = s.flagI := rfl
@[simp] theorem State.push_flagD (s : State) (v : Byte) : (s.push v).flagD = s.flagD := rfl
@[simp] theorem State.push_flagB (s : State) (v : Byte) : (s.push v).flagB = s.flagB := rfl
@[simp] theorem State.push_flagV (s : State) (v : Byte) : (s.push v).flagV = s.flagV := rfl
@[simp] theorem State.push_flagN (s : State) (v : Byte) : (s.push v).flagN = s.flagN := rfl
@[simp] theorem State.push_mem (s : State) (v : Byte) : (s.push v).mem = (s.store (stackAddr s.sp) v).mem := rfl
@[simp] theorem State.push_bus (s : State) (v : Byte) : (s.push v).bus = (s.store (stackAddr s.sp) v).bus := rfl
@[simp] theorem State.push_irqLine (s : State) (v : Byte) : (s.push v).irqLine = s.irqLine := rfl
@[simp] theorem State.push_nmiLine (s : State) (v : Byte) : (s.push v).nmiLine = s.nmiLine := rfl
@[simp] theorem State.push_nmiPending (s : State) (v : Byte) : (s.push v).nmiPending = s.nmiPending := rfl
@[simp] theorem State.push_resetLine (s : State) (v : Byte) : (s.push v).resetLine = s.resetLine := rfl
@[simp] theorem State.push_params (s : State) (v : Byte) : (s.push v).params = s.params := rfl
@[simp] theorem State.push_cycles (s : State) (v : Byte) : (s.push v).cycles = s.cycles := rfl
@[simp] theorem State.push_draws (s : State) (v : Byte) : (s.push v).draws = s.draws := rfl

@[simp] theorem State.unpackP_a (s : State) (v : Byte) : (s.unpackP v).a = s.a := rfl
@[simp] theorem State.unpackP_x (s : State) (v : Byte) : (s.unpackP v).x = s.x := rfl
@[simp] theorem State.unpackP_y (s : State) (v : Byte) : (s.unpackP v).y = s.y := rfl
@[simp] theorem State.unpackP_sp (s : State) (v : Byte) : (s.unpackP v).sp = s.sp := rfl
@[simp] theorem State.unpackP_pc (s : State) (v : Byte) : (s.unpackP v).pc = s.pc := rfl
@[simp] theorem State.unpackP_flagC (s : State) (v : Byte) : (s.unpackP v).flagC = v.getLsbD s.params.pLayout.c := rfl
@[simp] theorem State.unpackP_flagZ (s : State) (v : Byte) : (s.unpackP v).flagZ = v.getLsbD s.params.pLayout.z := rfl
@[simp] theorem State.unpackP_flagI (s : State) (v : Byte) : (s.unpackP v).flagI = v.getLsbD s.params.pLayout.i := rfl
@[simp] theorem State.unpackP_flagD (s : State) (v : Byte) : (s.unpackP v).flagD = v.getLsbD s.params.pLayout.d := rfl
@[simp] theorem State.unpackP_flagB (s : State) (v : Byte) : (s.unpackP v).flagB = v.getLsbD s.params.pLayout.b := rfl
@[simp] theorem State.unpackP_flagV (s : State) (v : Byte) : (s.unpackP v).flagV = v.getLsbD s.params.pLayout.v := rfl
@[simp] theorem State.unpackP_flagN (s : State) (v : Byte) : (s.unpackP v).flagN = v.getLsbD s.params.pLayout.n := rfl
@[simp] theorem State.unpackP_mem (s : State) (v : Byte) : (s.unpackP v).mem = s.mem := rfl
@[simp] theorem State.unpackP_bus (s : State) (v : Byte) : (s.unpackP v).bus = s.bus := rfl
@[simp] theorem State.unpackP_irqLine (s : State) (v : Byte) : (s.unpackP v).irqLine = s.irqLine := rfl
@[simp] theorem State.unpackP_nmiLine (s : State) (v : Byte) : (s.unpackP v).nmiLine = s.nmiLine := rfl
@[simp] theorem State.unpackP_nmiPending (s : State) (v : Byte) : (s.unpackP v).nmiPending = s.nmiPending := rfl
@[simp] theorem State.unpackP_resetLine (s : State) (v : Byte) : (s.unpackP v).resetLine = s.resetLine := rfl
@[simp] theorem State.unpackP_params (s : State) (v : Byte) : (s.unpackP v).params = s.params := rfl
@[simp] theorem State.unpackP_cycles (s : State) (v : Byte) : (s.unpackP v).cycles = s.cycles := rfl
@[simp] theorem State.unpackP_draws (s : State) (v : Byte) : (s.unpackP v).draws = s.draws := rfl

@[simp] theorem State.setSum_a (s : State) (o : AddOut) : (s.setSum o).a = o.r := rfl
@[simp] theorem State.setSum_x (s : State) (o : AddOut) : (s.setSum o).x = s.x := rfl
@[simp] theorem State.setSum_y (s : State) (o : AddOut) : (s.setSum o).y = s.y := rfl
@[simp] theorem State.setSum_sp (s : State) (o : AddOut) : (s.setSum o).sp = s.sp := rfl
@[simp] theorem State.setSum_pc (s : State) (o : AddOut) : (s.setSum o).pc = s.pc := rfl
@[simp] theorem State.setSum_flagC (s : State) (o : AddOut) : (s.setSum o).flagC = o.carry := rfl
@[simp] theorem State.setSum_flagZ (s : State) (o : AddOut) : (s.setSum o).flagZ = (o.r == 0) := rfl
@[simp] theorem State.setSum_flagI (s : State) (o : AddOut) : (s.setSum o).flagI = s.flagI := rfl
@[simp] theorem State.setSum_flagD (s : State) (o : AddOut) : (s.setSum o).flagD = s.flagD := rfl
@[simp] theorem State.setSum_flagB (s : State) (o : AddOut) : (s.setSum o).flagB = s.flagB := rfl
@[simp] theorem State.setSum_flagV (s : State) (o : AddOut) : (s.setSum o).flagV = o.overflow := rfl
@[simp] theorem State.setSum_flagN (s : State) (o : AddOut) : (s.setSum o).flagN = o.r.msb := rfl
@[simp] theorem State.setSum_mem (s : State) (o : AddOut) : (s.setSum o).mem = s.mem := rfl
@[simp] theorem State.setSum_bus (s : State) (o : AddOut) : (s.setSum o).bus = s.bus := rfl
@[simp] theorem State.setSum_irqLine (s : State) (o : AddOut) : (s.setSum o).irqLine = s.irqLine := rfl
@[simp] theorem State.setSum_nmiLine (s : State) (o : AddOut) : (s.setSum o).nmiLine = s.nmiLine := rfl
@[simp] theorem State.setSum_nmiPending (s : State) (o : AddOut) : (s.setSum o).nmiPending = s.nmiPending := rfl
@[simp] theorem State.setSum_resetLine (s : State) (o : AddOut) : (s.setSum o).resetLine = s.resetLine := rfl
@[simp] theorem State.setSum_params (s : State) (o : AddOut) : (s.setSum o).params = s.params := rfl
@[simp] theorem State.setSum_cycles (s : State) (o : AddOut) : (s.setSum o).cycles = s.cycles := rfl
@[simp] theorem State.setSum_draws (s : State) (o : AddOut) : (s.setSum o).draws = s.draws := rfl

@[simp] theorem State.compare_a (s : State) (r m : Byte) : (s.compare r m).a = s.a := rfl
@[simp] theorem State.compare_x (s : State) (r m : Byte) : (s.compare r m).x = s.x := rfl
@[simp] theorem State.compare_y (s : State) (r m : Byte) : (s.compare r m).y = s.y := rfl
@[simp] theorem State.compare_sp (s : State) (r m : Byte) : (s.compare r m).sp = s.sp := rfl
@[simp] theorem State.compare_pc (s : State) (r m : Byte) : (s.compare r m).pc = s.pc := rfl
@[simp] theorem State.compare_flagC (s : State) (r m : Byte) :
    (s.compare r m).flagC = decide (m.toNat ≤ r.toNat) := rfl
@[simp] theorem State.compare_flagZ (s : State) (r m : Byte) : (s.compare r m).flagZ = (r == m) := rfl
@[simp] theorem State.compare_flagI (s : State) (r m : Byte) : (s.compare r m).flagI = s.flagI := rfl
@[simp] theorem State.compare_flagD (s : State) (r m : Byte) : (s.compare r m).flagD = s.flagD := rfl
@[simp] theorem State.compare_flagB (s : State) (r m : Byte) : (s.compare r m).flagB = s.flagB := rfl
@[simp] theorem State.compare_flagV (s : State) (r m : Byte) : (s.compare r m).flagV = s.flagV := rfl
@[simp] theorem State.compare_flagN (s : State) (r m : Byte) : (s.compare r m).flagN = (r - m).msb := rfl
@[simp] theorem State.compare_mem (s : State) (r m : Byte) : (s.compare r m).mem = s.mem := rfl
@[simp] theorem State.compare_bus (s : State) (r m : Byte) : (s.compare r m).bus = s.bus := rfl
@[simp] theorem State.compare_irqLine (s : State) (r m : Byte) : (s.compare r m).irqLine = s.irqLine := rfl
@[simp] theorem State.compare_nmiLine (s : State) (r m : Byte) : (s.compare r m).nmiLine = s.nmiLine := rfl
@[simp] theorem State.compare_nmiPending (s : State) (r m : Byte) : (s.compare r m).nmiPending = s.nmiPending := rfl
@[simp] theorem State.compare_resetLine (s : State) (r m : Byte) : (s.compare r m).resetLine = s.resetLine := rfl
@[simp] theorem State.compare_params (s : State) (r m : Byte) : (s.compare r m).params = s.params := rfl
@[simp] theorem State.compare_cycles (s : State) (r m : Byte) : (s.compare r m).cycles = s.cycles := rfl
@[simp] theorem State.compare_draws (s : State) (r m : Byte) : (s.compare r m).draws = s.draws := rfl

@[simp] theorem State.pull_a (s : State) : s.pull.2.a = s.a := rfl
@[simp] theorem State.pull_x (s : State) : s.pull.2.x = s.x := rfl
@[simp] theorem State.pull_y (s : State) : s.pull.2.y = s.y := rfl
@[simp] theorem State.pull_sp (s : State) : s.pull.2.sp = s.sp + 1 := rfl
@[simp] theorem State.pull_pc (s : State) : s.pull.2.pc = s.pc := rfl
@[simp] theorem State.pull_flagC (s : State) : s.pull.2.flagC = s.flagC := rfl
@[simp] theorem State.pull_flagZ (s : State) : s.pull.2.flagZ = s.flagZ := rfl
@[simp] theorem State.pull_flagI (s : State) : s.pull.2.flagI = s.flagI := rfl
@[simp] theorem State.pull_flagD (s : State) : s.pull.2.flagD = s.flagD := rfl
@[simp] theorem State.pull_flagB (s : State) : s.pull.2.flagB = s.flagB := rfl
@[simp] theorem State.pull_flagV (s : State) : s.pull.2.flagV = s.flagV := rfl
@[simp] theorem State.pull_flagN (s : State) : s.pull.2.flagN = s.flagN := rfl
@[simp] theorem State.pull_mem (s : State) : s.pull.2.mem = s.mem := rfl
@[simp] theorem State.pull_bus (s : State) :
    s.pull.2.bus = if s.kindAt (stackAddr (s.sp + 1)) = .device then .read (stackAddr (s.sp + 1)) :: s.bus else s.bus := rfl
@[simp] theorem State.pull_irqLine (s : State) : s.pull.2.irqLine = s.irqLine := rfl
@[simp] theorem State.pull_nmiLine (s : State) : s.pull.2.nmiLine = s.nmiLine := rfl
@[simp] theorem State.pull_nmiPending (s : State) : s.pull.2.nmiPending = s.nmiPending := rfl
@[simp] theorem State.pull_resetLine (s : State) : s.pull.2.resetLine = s.resetLine := rfl
@[simp] theorem State.pull_params (s : State) : s.pull.2.params = s.params := rfl
@[simp] theorem State.pull_cycles (s : State) : s.pull.2.cycles = s.cycles := rfl
@[simp] theorem State.pull_draws (s : State) : s.pull.2.draws = s.draws := rfl

@[simp] theorem State.enterVector_a (s : State) (vector : Word) : (s.enterVector vector).a = s.a := rfl
@[simp] theorem State.enterVector_x (s : State) (vector : Word) : (s.enterVector vector).x = s.x := rfl
@[simp] theorem State.enterVector_y (s : State) (vector : Word) : (s.enterVector vector).y = s.y := rfl
@[simp] theorem State.enterVector_sp (s : State) (vector : Word) : (s.enterVector vector).sp = s.sp := rfl
@[simp] theorem State.enterVector_pc (s : State) (vector : Word) : (s.enterVector vector).pc = (s.load16 vector).1 := rfl
@[simp] theorem State.enterVector_flagC (s : State) (vector : Word) : (s.enterVector vector).flagC = s.flagC := rfl
@[simp] theorem State.enterVector_flagZ (s : State) (vector : Word) : (s.enterVector vector).flagZ = s.flagZ := rfl
@[simp] theorem State.enterVector_flagI (s : State) (vector : Word) : (s.enterVector vector).flagI = s.flagI := rfl
@[simp] theorem State.enterVector_flagD (s : State) (vector : Word) : (s.enterVector vector).flagD = s.flagD := rfl
@[simp] theorem State.enterVector_flagB (s : State) (vector : Word) : (s.enterVector vector).flagB = s.flagB := rfl
@[simp] theorem State.enterVector_flagV (s : State) (vector : Word) : (s.enterVector vector).flagV = s.flagV := rfl
@[simp] theorem State.enterVector_flagN (s : State) (vector : Word) : (s.enterVector vector).flagN = s.flagN := rfl
@[simp] theorem State.enterVector_mem (s : State) (vector : Word) : (s.enterVector vector).mem = s.mem := rfl
@[simp] theorem State.enterVector_bus (s : State) (vector : Word) : (s.enterVector vector).bus = (s.load16 vector).2.bus := rfl
@[simp] theorem State.enterVector_irqLine (s : State) (vector : Word) : (s.enterVector vector).irqLine = s.irqLine := rfl
@[simp] theorem State.enterVector_nmiLine (s : State) (vector : Word) : (s.enterVector vector).nmiLine = s.nmiLine := rfl
@[simp] theorem State.enterVector_nmiPending (s : State) (vector : Word) : (s.enterVector vector).nmiPending = s.nmiPending := rfl
@[simp] theorem State.enterVector_resetLine (s : State) (vector : Word) : (s.enterVector vector).resetLine = s.resetLine := rfl
@[simp] theorem State.enterVector_params (s : State) (vector : Word) : (s.enterVector vector).params = s.params := rfl
@[simp] theorem State.enterVector_cycles (s : State) (vector : Word) : (s.enterVector vector).cycles = s.cycles := rfl
@[simp] theorem State.enterVector_draws (s : State) (vector : Word) : (s.enterVector vector).draws = s.draws := rfl

@[simp] theorem State.setUnstatedSum_a (s : State) : s.setUnstatedSum.a = (Config.freeValue s.draws).setWidth 8 := rfl
@[simp] theorem State.setUnstatedSum_x (s : State) : s.setUnstatedSum.x = s.x := rfl
@[simp] theorem State.setUnstatedSum_y (s : State) : s.setUnstatedSum.y = s.y := rfl
@[simp] theorem State.setUnstatedSum_sp (s : State) : s.setUnstatedSum.sp = s.sp := rfl
@[simp] theorem State.setUnstatedSum_pc (s : State) : s.setUnstatedSum.pc = s.pc := rfl
@[simp] theorem State.setUnstatedSum_flagC (s : State) : s.setUnstatedSum.flagC = (Config.freeValue s.draws).getLsbD 8 := rfl
@[simp] theorem State.setUnstatedSum_flagZ (s : State) : s.setUnstatedSum.flagZ = (Config.freeValue s.draws).getLsbD 10 := rfl
@[simp] theorem State.setUnstatedSum_flagI (s : State) : s.setUnstatedSum.flagI = s.flagI := rfl
@[simp] theorem State.setUnstatedSum_flagD (s : State) : s.setUnstatedSum.flagD = s.flagD := rfl
@[simp] theorem State.setUnstatedSum_flagB (s : State) : s.setUnstatedSum.flagB = s.flagB := rfl
@[simp] theorem State.setUnstatedSum_flagV (s : State) : s.setUnstatedSum.flagV = (Config.freeValue s.draws).getLsbD 9 := rfl
@[simp] theorem State.setUnstatedSum_flagN (s : State) : s.setUnstatedSum.flagN = (Config.freeValue s.draws).getLsbD 11 := rfl
@[simp] theorem State.setUnstatedSum_mem (s : State) : s.setUnstatedSum.mem = s.mem := rfl
@[simp] theorem State.setUnstatedSum_bus (s : State) : s.setUnstatedSum.bus = s.bus := rfl
@[simp] theorem State.setUnstatedSum_irqLine (s : State) : s.setUnstatedSum.irqLine = s.irqLine := rfl
@[simp] theorem State.setUnstatedSum_nmiLine (s : State) : s.setUnstatedSum.nmiLine = s.nmiLine := rfl
@[simp] theorem State.setUnstatedSum_nmiPending (s : State) : s.setUnstatedSum.nmiPending = s.nmiPending := rfl
@[simp] theorem State.setUnstatedSum_resetLine (s : State) : s.setUnstatedSum.resetLine = s.resetLine := rfl
@[simp] theorem State.setUnstatedSum_params (s : State) : s.setUnstatedSum.params = s.params := rfl
@[simp] theorem State.setUnstatedSum_cycles (s : State) : s.setUnstatedSum.cycles = s.cycles := rfl
@[simp] theorem State.setUnstatedSum_draws (s : State) : s.setUnstatedSum.draws = s.draws + 1 := rfl

/-! ### Two loads -/

@[simp] theorem State.load_fst (s : State) (addr : Word) : (s.load addr).1 = s.read addr := rfl
@[simp] theorem State.load_snd (s : State) (addr : Word) : (s.load addr).2 = s.touch addr := rfl
@[simp] theorem State.load16_fst (s : State) (addr : Word) :
    (s.load16 addr).1 = joinBytes ((s.touch addr).read (addr + 1)) (s.read addr) := rfl
@[simp] theorem State.load16_snd (s : State) (addr : Word) :
    (s.load16 addr).2 = (s.touch addr).touch (addr + 1) := rfl
@[simp] theorem State.pointer_fst (s : State) (zp : Byte) :
    (s.pointer zp).1 = joinBytes ((s.touch (zext16 zp)).read (zext16 (zp + 1))) (s.read (zext16 zp)) := rfl
@[simp] theorem State.pointer_snd (s : State) (zp : Byte) :
    (s.pointer zp).2 = (s.touch (zext16 zp)).touch (zext16 (zp + 1)) := rfl

/-! ### Traps, field by field (R242, R217, R237, R271) -/

@[simp] theorem State.enterTrap_a (s : State) (ret : Word) (b : Bool) (vector : Word) :
    (s.enterTrap ret b vector).a = s.a := by
  simp only [State.enterTrap, State.enterVector_a, State.push_a]
@[simp] theorem State.enterTrap_x (s : State) (ret : Word) (b : Bool) (vector : Word) :
    (s.enterTrap ret b vector).x = s.x := by
  simp only [State.enterTrap, State.enterVector_x, State.push_x]
@[simp] theorem State.enterTrap_y (s : State) (ret : Word) (b : Bool) (vector : Word) :
    (s.enterTrap ret b vector).y = s.y := by
  simp only [State.enterTrap, State.enterVector_y, State.push_y]
@[simp] theorem State.enterTrap_sp (s : State) (ret : Word) (b : Bool) (vector : Word) :
    (s.enterTrap ret b vector).sp = s.sp - 1 - 1 - 1 := by
  simp only [State.enterTrap, State.enterVector_sp, State.push_sp]
@[simp] theorem State.enterTrap_flagC (s : State) (ret : Word) (b : Bool) (vector : Word) :
    (s.enterTrap ret b vector).flagC = s.flagC := by
  simp only [State.enterTrap, State.enterVector_flagC, State.push_flagC]
@[simp] theorem State.enterTrap_flagZ (s : State) (ret : Word) (b : Bool) (vector : Word) :
    (s.enterTrap ret b vector).flagZ = s.flagZ := by
  simp only [State.enterTrap, State.enterVector_flagZ, State.push_flagZ]
@[simp] theorem State.enterTrap_flagI (s : State) (ret : Word) (b : Bool) (vector : Word) :
    (s.enterTrap ret b vector).flagI = s.flagI := by
  simp only [State.enterTrap, State.enterVector_flagI, State.push_flagI]
@[simp] theorem State.enterTrap_flagD (s : State) (ret : Word) (b : Bool) (vector : Word) :
    (s.enterTrap ret b vector).flagD = s.flagD := by
  simp only [State.enterTrap, State.enterVector_flagD, State.push_flagD]
@[simp] theorem State.enterTrap_flagB (s : State) (ret : Word) (b : Bool) (vector : Word) :
    (s.enterTrap ret b vector).flagB = s.flagB := by
  simp only [State.enterTrap, State.enterVector_flagB, State.push_flagB]
@[simp] theorem State.enterTrap_flagV (s : State) (ret : Word) (b : Bool) (vector : Word) :
    (s.enterTrap ret b vector).flagV = s.flagV := by
  simp only [State.enterTrap, State.enterVector_flagV, State.push_flagV]
@[simp] theorem State.enterTrap_flagN (s : State) (ret : Word) (b : Bool) (vector : Word) :
    (s.enterTrap ret b vector).flagN = s.flagN := by
  simp only [State.enterTrap, State.enterVector_flagN, State.push_flagN]
@[simp] theorem State.enterTrap_irqLine (s : State) (ret : Word) (b : Bool) (vector : Word) :
    (s.enterTrap ret b vector).irqLine = s.irqLine := by
  simp only [State.enterTrap, State.enterVector_irqLine, State.push_irqLine]
@[simp] theorem State.enterTrap_nmiLine (s : State) (ret : Word) (b : Bool) (vector : Word) :
    (s.enterTrap ret b vector).nmiLine = s.nmiLine := by
  simp only [State.enterTrap, State.enterVector_nmiLine, State.push_nmiLine]
@[simp] theorem State.enterTrap_nmiPending (s : State) (ret : Word) (b : Bool) (vector : Word) :
    (s.enterTrap ret b vector).nmiPending = s.nmiPending := by
  simp only [State.enterTrap, State.enterVector_nmiPending, State.push_nmiPending]
@[simp] theorem State.enterTrap_resetLine (s : State) (ret : Word) (b : Bool) (vector : Word) :
    (s.enterTrap ret b vector).resetLine = s.resetLine := by
  simp only [State.enterTrap, State.enterVector_resetLine, State.push_resetLine]
@[simp] theorem State.enterTrap_params (s : State) (ret : Word) (b : Bool) (vector : Word) :
    (s.enterTrap ret b vector).params = s.params := by
  simp only [State.enterTrap, State.enterVector_params, State.push_params]
@[simp] theorem State.enterTrap_cycles (s : State) (ret : Word) (b : Bool) (vector : Word) :
    (s.enterTrap ret b vector).cycles = s.cycles := by
  simp only [State.enterTrap, State.enterVector_cycles, State.push_cycles]
@[simp] theorem State.enterTrap_draws (s : State) (ret : Word) (b : Bool) (vector : Word) :
    (s.enterTrap ret b vector).draws = s.draws := by
  simp only [State.enterTrap, State.enterVector_draws, State.push_draws]

@[simp] theorem State.leaveTrap_a (s : State) :
    s.leaveTrap.a = s.a := by
  simp only [State.leaveTrap, State.pull_a, State.unpackP_a]
@[simp] theorem State.leaveTrap_x (s : State) :
    s.leaveTrap.x = s.x := by
  simp only [State.leaveTrap, State.pull_x, State.unpackP_x]
@[simp] theorem State.leaveTrap_y (s : State) :
    s.leaveTrap.y = s.y := by
  simp only [State.leaveTrap, State.pull_y, State.unpackP_y]
@[simp] theorem State.leaveTrap_sp (s : State) :
    s.leaveTrap.sp = s.sp + 1 + 1 + 1 := by
  simp only [State.leaveTrap, State.pull_sp, State.unpackP_sp]
@[simp] theorem State.leaveTrap_flagC (s : State) :
    s.leaveTrap.flagC = s.pull.1.getLsbD s.params.pLayout.c := by
  simp only [State.leaveTrap, State.pull_flagC, State.unpackP_flagC, State.pull_params]
@[simp] theorem State.leaveTrap_flagZ (s : State) :
    s.leaveTrap.flagZ = s.pull.1.getLsbD s.params.pLayout.z := by
  simp only [State.leaveTrap, State.pull_flagZ, State.unpackP_flagZ, State.pull_params]
@[simp] theorem State.leaveTrap_flagI (s : State) :
    s.leaveTrap.flagI = s.pull.1.getLsbD s.params.pLayout.i := by
  simp only [State.leaveTrap, State.pull_flagI, State.unpackP_flagI, State.pull_params]
@[simp] theorem State.leaveTrap_flagD (s : State) :
    s.leaveTrap.flagD = s.pull.1.getLsbD s.params.pLayout.d := by
  simp only [State.leaveTrap, State.pull_flagD, State.unpackP_flagD, State.pull_params]
@[simp] theorem State.leaveTrap_flagB (s : State) :
    s.leaveTrap.flagB = s.pull.1.getLsbD s.params.pLayout.b := by
  simp only [State.leaveTrap, State.pull_flagB, State.unpackP_flagB, State.pull_params]
@[simp] theorem State.leaveTrap_flagV (s : State) :
    s.leaveTrap.flagV = s.pull.1.getLsbD s.params.pLayout.v := by
  simp only [State.leaveTrap, State.pull_flagV, State.unpackP_flagV, State.pull_params]
@[simp] theorem State.leaveTrap_flagN (s : State) :
    s.leaveTrap.flagN = s.pull.1.getLsbD s.params.pLayout.n := by
  simp only [State.leaveTrap, State.pull_flagN, State.unpackP_flagN, State.pull_params]
@[simp] theorem State.leaveTrap_mem (s : State) :
    s.leaveTrap.mem = s.mem := by
  simp only [State.leaveTrap, State.pull_mem, State.unpackP_mem]
@[simp] theorem State.leaveTrap_irqLine (s : State) :
    s.leaveTrap.irqLine = s.irqLine := by
  simp only [State.leaveTrap, State.pull_irqLine, State.unpackP_irqLine]
@[simp] theorem State.leaveTrap_nmiLine (s : State) :
    s.leaveTrap.nmiLine = s.nmiLine := by
  simp only [State.leaveTrap, State.pull_nmiLine, State.unpackP_nmiLine]
@[simp] theorem State.leaveTrap_nmiPending (s : State) :
    s.leaveTrap.nmiPending = s.nmiPending := by
  simp only [State.leaveTrap, State.pull_nmiPending, State.unpackP_nmiPending]
@[simp] theorem State.leaveTrap_resetLine (s : State) :
    s.leaveTrap.resetLine = s.resetLine := by
  simp only [State.leaveTrap, State.pull_resetLine, State.unpackP_resetLine]
@[simp] theorem State.leaveTrap_params (s : State) :
    s.leaveTrap.params = s.params := by
  simp only [State.leaveTrap, State.pull_params, State.unpackP_params]
@[simp] theorem State.leaveTrap_cycles (s : State) :
    s.leaveTrap.cycles = s.cycles := by
  simp only [State.leaveTrap, State.pull_cycles, State.unpackP_cycles]
@[simp] theorem State.leaveTrap_draws (s : State) :
    s.leaveTrap.draws = s.draws := by
  simp only [State.leaveTrap, State.pull_draws, State.unpackP_draws]

@[simp] theorem State.enterInterrupt_a (s : State) (vector : Word) :
    (s.enterInterrupt vector).a = s.a := by
  simp only [State.enterInterrupt, State.enterTrap_a]
@[simp] theorem State.enterInterrupt_x (s : State) (vector : Word) :
    (s.enterInterrupt vector).x = s.x := by
  simp only [State.enterInterrupt, State.enterTrap_x]
@[simp] theorem State.enterInterrupt_y (s : State) (vector : Word) :
    (s.enterInterrupt vector).y = s.y := by
  simp only [State.enterInterrupt, State.enterTrap_y]
@[simp] theorem State.enterInterrupt_sp (s : State) (vector : Word) :
    (s.enterInterrupt vector).sp = s.sp - 1 - 1 - 1 := by
  simp only [State.enterInterrupt, State.enterTrap_sp]
@[simp] theorem State.enterInterrupt_flagC (s : State) (vector : Word) :
    (s.enterInterrupt vector).flagC = s.flagC := by
  simp only [State.enterInterrupt, State.enterTrap_flagC]
@[simp] theorem State.enterInterrupt_flagZ (s : State) (vector : Word) :
    (s.enterInterrupt vector).flagZ = s.flagZ := by
  simp only [State.enterInterrupt, State.enterTrap_flagZ]
@[simp] theorem State.enterInterrupt_flagI (s : State) (vector : Word) :
    (s.enterInterrupt vector).flagI = true := by
  simp only [State.enterInterrupt]
@[simp] theorem State.enterInterrupt_flagD (s : State) (vector : Word) :
    (s.enterInterrupt vector).flagD = s.flagD := by
  simp only [State.enterInterrupt, State.enterTrap_flagD]
@[simp] theorem State.enterInterrupt_flagB (s : State) (vector : Word) :
    (s.enterInterrupt vector).flagB = s.flagB := by
  simp only [State.enterInterrupt, State.enterTrap_flagB]
@[simp] theorem State.enterInterrupt_flagV (s : State) (vector : Word) :
    (s.enterInterrupt vector).flagV = s.flagV := by
  simp only [State.enterInterrupt, State.enterTrap_flagV]
@[simp] theorem State.enterInterrupt_flagN (s : State) (vector : Word) :
    (s.enterInterrupt vector).flagN = s.flagN := by
  simp only [State.enterInterrupt, State.enterTrap_flagN]
@[simp] theorem State.enterInterrupt_irqLine (s : State) (vector : Word) :
    (s.enterInterrupt vector).irqLine = s.irqLine := by
  simp only [State.enterInterrupt, State.enterTrap_irqLine]
@[simp] theorem State.enterInterrupt_nmiLine (s : State) (vector : Word) :
    (s.enterInterrupt vector).nmiLine = s.nmiLine := by
  simp only [State.enterInterrupt, State.enterTrap_nmiLine]
@[simp] theorem State.enterInterrupt_nmiPending (s : State) (vector : Word) :
    (s.enterInterrupt vector).nmiPending = s.nmiPending := by
  simp only [State.enterInterrupt, State.enterTrap_nmiPending]
@[simp] theorem State.enterInterrupt_resetLine (s : State) (vector : Word) :
    (s.enterInterrupt vector).resetLine = s.resetLine := by
  simp only [State.enterInterrupt, State.enterTrap_resetLine]
@[simp] theorem State.enterInterrupt_params (s : State) (vector : Word) :
    (s.enterInterrupt vector).params = s.params := by
  simp only [State.enterInterrupt, State.enterTrap_params]
@[simp] theorem State.enterInterrupt_cycles (s : State) (vector : Word) :
    (s.enterInterrupt vector).cycles = s.cycles + 7 := by
  simp only [State.enterInterrupt]
@[simp] theorem State.enterInterrupt_draws (s : State) (vector : Word) :
    (s.enterInterrupt vector).draws = s.draws := by
  simp only [State.enterInterrupt, State.enterTrap_draws]

@[simp] theorem State.resetSequence_a (s : State) :
    s.resetSequence.a = s.a := by
  simp only [State.resetSequence, State.enterVector_a]
@[simp] theorem State.resetSequence_x (s : State) :
    s.resetSequence.x = s.x := by
  simp only [State.resetSequence, State.enterVector_x]
@[simp] theorem State.resetSequence_y (s : State) :
    s.resetSequence.y = s.y := by
  simp only [State.resetSequence, State.enterVector_y]
@[simp] theorem State.resetSequence_sp (s : State) :
    s.resetSequence.sp = s.sp := by
  simp only [State.resetSequence, State.enterVector_sp]
@[simp] theorem State.resetSequence_flagC (s : State) :
    s.resetSequence.flagC = s.flagC := by
  simp only [State.resetSequence, State.enterVector_flagC]
@[simp] theorem State.resetSequence_flagZ (s : State) :
    s.resetSequence.flagZ = s.flagZ := by
  simp only [State.resetSequence, State.enterVector_flagZ]
@[simp] theorem State.resetSequence_flagI (s : State) :
    s.resetSequence.flagI = true := by
  simp only [State.resetSequence]
@[simp] theorem State.resetSequence_flagD (s : State) :
    s.resetSequence.flagD = s.flagD := by
  simp only [State.resetSequence, State.enterVector_flagD]
@[simp] theorem State.resetSequence_flagB (s : State) :
    s.resetSequence.flagB = s.flagB := by
  simp only [State.resetSequence, State.enterVector_flagB]
@[simp] theorem State.resetSequence_flagV (s : State) :
    s.resetSequence.flagV = s.flagV := by
  simp only [State.resetSequence, State.enterVector_flagV]
@[simp] theorem State.resetSequence_flagN (s : State) :
    s.resetSequence.flagN = s.flagN := by
  simp only [State.resetSequence, State.enterVector_flagN]
@[simp] theorem State.resetSequence_mem (s : State) :
    s.resetSequence.mem = s.mem := by
  simp only [State.resetSequence, State.enterVector_mem]
@[simp] theorem State.resetSequence_irqLine (s : State) :
    s.resetSequence.irqLine = s.irqLine := by
  simp only [State.resetSequence, State.enterVector_irqLine]
@[simp] theorem State.resetSequence_nmiLine (s : State) :
    s.resetSequence.nmiLine = s.nmiLine := by
  simp only [State.resetSequence, State.enterVector_nmiLine]
@[simp] theorem State.resetSequence_nmiPending (s : State) :
    s.resetSequence.nmiPending = false := by
  simp only [State.resetSequence]
@[simp] theorem State.resetSequence_resetLine (s : State) :
    s.resetSequence.resetLine = s.resetLine := by
  simp only [State.resetSequence, State.enterVector_resetLine]
@[simp] theorem State.resetSequence_params (s : State) :
    s.resetSequence.params = s.params := by
  simp only [State.resetSequence, State.enterVector_params]
@[simp] theorem State.resetSequence_cycles (s : State) :
    s.resetSequence.cycles = s.cycles := by
  simp only [State.resetSequence, State.enterVector_cycles]
@[simp] theorem State.resetSequence_draws (s : State) :
    s.resetSequence.draws = s.draws := by
  simp only [State.resetSequence, State.enterVector_draws]
@[simp] theorem State.resetSequence_pc (s : State) : s.resetSequence.pc = (s.load16 resetVector).1 := by
  simp only [State.resetSequence, State.enterVector_pc]
@[simp] theorem State.resetSequence_bus (s : State) : s.resetSequence.bus = (s.load16 resetVector).2.bus := by
  simp only [State.resetSequence, State.enterVector_bus]

end Sys2Proof.Machine
end

