-- ==== Sys2Proof/Laws/Ops.lean ====
section
/-! SUPPORT. One lemma per shared operation that says once what it does. -/

namespace Sys2Proof.Machine

/-! ### Access through the memory map -/

/-- What an access can see of a state: the map, memory and the record of device accesses. -/
theorem State.read_congr {s t : State} (hp : t.params = s.params) (hm : t.mem = s.mem) (hb : t.bus = s.bus) (b : Word) :
    t.read b = s.read b := by unfold State.read State.kindAt; rw [hp, hm, hb]

theorem State.kindAt_congr {s t : State} (hp : t.params = s.params) (b : Word) : t.kindAt b = s.kindAt b := by
  simp only [State.kindAt, hp]

@[simp] theorem State.kindAt_touch (s : State) (a b : Word) : (s.touch a).kindAt b = s.kindAt b := rfl

@[simp] theorem State.kindAt_store (s : State) (a b : Word) (v : Byte) : (s.store a v).kindAt b = s.kindAt b := rfl

@[simp] theorem State.kindAt_push (s : State) (v : Byte) (b : Word) : (s.push v).kindAt b = s.kindAt b := rfl

/-- A read of RAM or ROM gives what memory holds (R45). -/
theorem State.read_memory {s : State} {b : Word} (h : s.kindAt b ≠ .device) : s.read b = s.mem.read b := if_neg h

/-- A read of a device address gives what the platform answers (R44). -/
theorem State.read_device {s : State} {b : Word} (h : s.kindAt b = .device) : s.read b = Config.deviceRead b s.bus :=
  if_pos h

/-- A read of RAM or ROM changes nothing (R54). -/
theorem State.touch_memory {s : State} {b : Word} (h : s.kindAt b ≠ .device) : s.touch b = s := by
  simp only [State.touch, if_neg h]

/-- A read of a device address is an event (R54). -/
theorem State.touch_device {s : State} {b : Word} (h : s.kindAt b = .device) :
    s.touch b = { s with bus := .read b :: s.bus } := by simp only [State.touch, if_pos h]

/-- A store to RAM changes the byte (R46). -/
theorem State.store_ram {s : State} {b : Word} (h : s.kindAt b = .ram) (v : Byte) :
    s.store b v = { s with mem := s.mem.write b v } := by simp [State.store, h]

/-- A store to ROM changes nothing (log 15). -/
theorem State.store_rom {s : State} {b : Word} (h : s.kindAt b = .rom) (v : Byte) : s.store b v = s := by
  simp [State.store, h]

/-- A store to a device address is an event (R54). -/
theorem State.store_device {s : State} {b : Word} (h : s.kindAt b = .device) (v : Byte) :
    s.store b v = { s with bus := .write b v :: s.bus } := by simp [State.store, h]

/-- What memory reads as after a store (R46). -/
theorem State.mem_read_store (s : State) (addr b : Word) (v : Byte) :
    (s.store addr v).mem.read b = if b = addr ∧ s.kindAt addr = .ram then v else s.mem.read b := by
  by_cases h : s.kindAt addr = .ram <;> simp [h, Memory.read_write]

/-- A store keeps the canonical form. -/
theorem State.store_wf {s : State} (h : s.mem.wf = true) (addr : Word) (v : Byte) : (s.store addr v).mem.wf = true := by
  by_cases hk : s.kindAt addr = .ram
  · simpa [hk] using Memory.write_wf addr v h
  · simpa [hk] using h

/-- A push keeps the canonical form. -/
theorem State.push_wf {s : State} (h : s.mem.wf = true) (v : Byte) : (s.push v).mem.wf = true :=
  State.store_wf h _ v

/-! ### The modes that load a pointer -/

@[simp] theorem eaIzx_fst (zp : Byte) (s : State) : (eaIzx zp s).1 = (s.pointer (zp + s.x)).1 := rfl

@[simp] theorem eaIzx_snd (zp : Byte) (s : State) : (eaIzx zp s).2 = (s.pointer (zp + s.x)).2 := rfl

@[simp] theorem eaIzy_fst (zp : Byte) (s : State) : (eaIzy zp s).1 = (s.pointer zp).1 + zext16 s.y := rfl

@[simp] theorem eaIzy_snd (zp : Byte) (s : State) : (eaIzy zp s).2 = (s.pointer zp).2 := rfl

@[simp] theorem indirectTarget_fst (ptr : Word) (s : State) :
    (indirectTarget ptr s).1 = joinBytes ((s.touch ptr).read (indirectHighAddr ptr s.params)) (s.read ptr) := rfl

@[simp] theorem indirectTarget_snd (ptr : Word) (s : State) :
    (indirectTarget ptr s).2 = (s.touch ptr).touch (indirectHighAddr ptr s.params) := rfl

/-! ### The stack -/

theorem stackAddr_toNat (sp : Byte) : (stackAddr sp).toNat = 256 + sp.toNat := by simp [stackAddr]

theorem stackAddr_inj {p q : Byte} : stackAddr p = stackAddr q ↔ p = q :=
  ⟨fun h => (joinBytes_inj h).2, fun h => h ▸ rfl⟩

/-- No vector byte is on the stack page. -/
theorem stackAddr_ne_of_le {p : Byte} {w : Word} (h : 0x0200 ≤ w.toNat) : w ≠ stackAddr p := by
  intro e
  have hp := stackAddr_toNat p
  have := p.isLt
  rw [← e] at hp
  omega

/-- What memory reads as after a push (R17). -/
theorem State.mem_read_push (s : State) (v : Byte) (b : Word) :
    (s.push v).mem.read b =
      if b = stackAddr s.sp ∧ s.kindAt (stackAddr s.sp) = .ram then v else s.mem.read b :=
  s.mem_read_store (stackAddr s.sp) b v

/-- The byte a pull gives (R18). -/
theorem State.pull_byte (s : State) : s.pull.1 = s.read (stackAddr (s.sp + 1)) := rfl

/-- A pull after a push to RAM gives the byte pushed (R18). -/
theorem State.pull_push {s : State} (h : s.kindAt (stackAddr s.sp) = .ram) (v : Byte) : (s.push v).pull.1 = v := by
  have hs : (s.push v).sp + 1 = s.sp := BitVec.sub_add_cancel _ _
  rw [State.pull_byte, hs, State.read_memory (by simp [h]), State.mem_read_push, if_pos ⟨rfl, h⟩]

/-! ### The status byte -/

/-- The bits of a pushed status byte (R26). -/
theorem State.packP_getLsbD (s : State) (b : Bool) (k : Fin 8) : (s.packP b).getLsbD k = s.statusBit b k := by
  unfold State.packP
  generalize h : s.statusBit b = f
  revert k
  clear h
  have hf : ∀ b0 b1 b2 b3 b4 b5 b6 b7 : Bool,
      let v := BitVec.ofBool b7 ++ BitVec.ofBool b6 ++ BitVec.ofBool b5 ++ BitVec.ofBool b4 ++ BitVec.ofBool b3 ++
        BitVec.ofBool b2 ++ BitVec.ofBool b1 ++ BitVec.ofBool b0
      v.getLsbD 0 = b0 ∧ v.getLsbD 1 = b1 ∧ v.getLsbD 2 = b2 ∧ v.getLsbD 3 = b3 ∧ v.getLsbD 4 = b4 ∧
        v.getLsbD 5 = b5 ∧ v.getLsbD 6 = b6 ∧ v.getLsbD 7 = b7 := by decide
  have e := hf (f 0) (f 1) (f 2) (f 3) (f 4) (f 5) (f 6) (f 7)
  intro k
  obtain ⟨e0, e1, e2, e3, e4, e5, e6, e7⟩ := e
  match k with
  | 0 => exact e0
  | 1 => exact e1
  | 2 => exact e2
  | 3 => exact e3
  | 4 => exact e4
  | 5 => exact e5
  | 6 => exact e6
  | 7 => exact e7

/-- In a layout whose seven bits are distinct, each flag's bit of a pushed status byte holds the flag (R26). -/
theorem State.packP_flags {s : State} (h : s.params.pLayout.distinct = true) (b : Bool) :
    let l := s.params.pLayout
    (s.packP b).getLsbD l.n = s.flagN ∧ (s.packP b).getLsbD l.v = s.flagV ∧ (s.packP b).getLsbD l.b = b ∧
      (s.packP b).getLsbD l.d = s.flagD ∧ (s.packP b).getLsbD l.i = s.flagI ∧ (s.packP b).getLsbD l.z = s.flagZ ∧
      (s.packP b).getLsbD l.c = s.flagC := by
  simp only [State.packP_getLsbD, State.statusBit]
  simp only [PLayout.distinct, PLayout.positions, decide_eq_true_eq, List.nodup_cons, List.mem_cons, List.not_mem_nil,
    or_false, not_or, List.nodup_nil, and_true] at h
  obtain ⟨⟨a1, a2, a3, a4, a5, a6⟩, ⟨b1, b2, b3, b4, b5⟩, ⟨c1, c2, c3, c4⟩, ⟨d1, d2, d3⟩, ⟨e1, e2⟩, f1, -⟩ := h
  simp [Ne.symm a1, Ne.symm a2, Ne.symm a3, Ne.symm a4, Ne.symm a5, Ne.symm a6, Ne.symm b1, Ne.symm b2, Ne.symm b3,
    Ne.symm b4, Ne.symm b5, Ne.symm c1, Ne.symm c2, Ne.symm c3, Ne.symm c4, Ne.symm d1, Ne.symm d2, Ne.symm d3,
    Ne.symm e1, Ne.symm e2, Ne.symm f1]

/-! ### Traps -/

/-- What taking an exception does (R242): three pushes, then PC from the vector. -/
theorem State.enterTrap_eq (s : State) (ret : Word) (b : Bool) (vector : Word) :
    s.enterTrap ret b vector =
      (let u := ((s.push (hiByte ret)).push (loByte ret)).push (s.packP b)
       { (u.touch vector).touch (vector + 1) with
         pc := joinBytes ((u.touch vector).read (vector + 1)) (u.read vector) }) := rfl

@[simp] theorem State.enterTrap_mem (s : State) (ret : Word) (b : Bool) (vector : Word) :
    (s.enterTrap ret b vector).mem = (((s.push (hiByte ret)).push (loByte ret)).push (s.packP b)).mem :=
  State.enterVector_mem _ _

/-- The PC that taking an exception loads from a vector in memory, outside the stack page (R242). -/
theorem State.enterTrap_pc (s : State) (ret : Word) (b : Bool) (vector : Word) (h0 : 0x0200 ≤ vector.toNat)
    (h1 : 0x0200 ≤ (vector + 1).toNat) (m0 : s.kindAt vector ≠ .device) (m1 : s.kindAt (vector + 1) ≠ .device) :
    (s.enterTrap ret b vector).pc = joinBytes (s.mem.read (vector + 1)) (s.mem.read vector) := by
  have ne0 : ∀ p, vector ≠ stackAddr p := fun p => stackAddr_ne_of_le h0
  have ne1 : ∀ p, vector + 1 ≠ stackAddr p := fun p => stackAddr_ne_of_le h1
  have hr : ∀ (v w x : Byte) (b : Word), s.kindAt b ≠ .device → (∀ p, b ≠ stackAddr p) →
      (((s.push v).push w).push x).read b = s.mem.read b := fun v w x b hb hne => by
    rw [State.read_memory (by simpa using hb)]
    simp only [State.mem_read_push, hne, false_and, if_false]
  rw [State.enterTrap_eq]
  show joinBytes _ _ = _
  rw [State.touch_memory (by simpa using m0), hr _ _ _ _ m1 ne1, hr _ _ _ _ m0 ne0]

/-- What returning from an exception does (R217): three pulls, the flags from the first. -/
theorem State.leaveTrap_eq (s : State) :
    s.leaveTrap =
      (let a := stackAddr (s.sp + 1)
       let b := stackAddr (s.sp + 1 + 1)
       let c := stackAddr (s.sp + 1 + 1 + 1)
       { (((s.touch a).unpackP (s.read a)).touch b).touch c with
         sp := s.sp + 1 + 1 + 1
         pc := joinBytes (((s.touch a).touch b).read c) ((s.touch a).read b) }) := rfl

/-- What a boundary serves instead of the next instruction, if it serves anything (R241). -/
theorem State.boundaryEvent_cases {s t : State} (h : s.boundaryEvent = some t) :
    (s.resetLine = true ∧ t = s.resetSequence) ∨
      (s.resetLine = false ∧ s.nmiPending = true ∧ t = { s with nmiPending := false }.enterInterrupt nmiVector) ∨
      (s.resetLine = false ∧ s.nmiPending = false ∧ s.irqLine = true ∧ s.flagI = false ∧
        t = s.enterInterrupt irqVector) := by
  unfold State.boundaryEvent at h
  split at h
  · rename_i hr
    exact .inl ⟨hr, (Option.some.inj h).symm⟩
  · rename_i hr
    split at h
    · rename_i hn
      exact .inr (.inl ⟨by simpa using hr, hn, (Option.some.inj h).symm⟩)
    · rename_i hn
      split at h
      · rename_i hi
        simp only [Bool.and_eq_true, Bool.not_eq_true'] at hi
        exact .inr (.inr ⟨by simpa using hr, by simpa using hn, hi.1, hi.2, (Option.some.inj h).symm⟩)
      · exact absurd h (by simp)

/-! ### Decimal mode -/

/-- What ADC and SBC can answer (R145). -/
theorem decimalGate_cases {o : AddOut} {len : Word} {s t : State} (h : decimalGate o len s = .next t) :
    ((s.flagD = false ∨ s.params.decimalMode = .binary) ∧ t = (s.setSum o).advance len) ∨
      (s.flagD = true ∧ s.params.decimalMode = .bcd ∧ t = s.setUnstatedSum.advance len) := by
  unfold decimalGate at h
  split at h
  · rename_i hd
    split at h
    · exact absurd h (by simp)
    · rename_i hm
      exact .inl ⟨.inr hm, (Host.Outcome.next.inj h).symm⟩
    · rename_i hm
      exact .inr ⟨hd, hm, (Host.Outcome.next.inj h).symm⟩
  · rename_i hd
    exact .inl ⟨.inl (by simpa using hd), (Host.Outcome.next.inj h).symm⟩

end Sys2Proof.Machine
end

