-- ==== Sys2Proof/Laws/PerInstr.lean ====
section
/-! SUPPORT. Statements made per instruction: an encoding has as many bytes as the instruction is long, and the
instruction is well formed (`30_encoding.md` R70, R96). -/

namespace Sys2Proof.Laws.EncodedLength

/-- The encoding is as long as the instruction, one to three bytes, and the instruction is well formed. -/
def Statement (i : Instr) : Prop :=
  (encode i).length = i.length ∧ 1 ≤ i.length ∧ i.length ≤ 3 ∧ WellFormed i

theorem wellFormed_of {i : Instr} (hm : i.toLine.modeAvailable = true)
    (ho : i.operand < 256 ^ (i.mode.length - 1)) : WellFormed i := by
  rw [WellFormed, Line.wellFormed, hm, Bool.true_and]
  exact decide_eq_true ho

theorem of_f1 (i : Instr) (hl : i.length = 1) (he : (encode i).length = 1) (hm : i.toLine.modeAvailable = true)
    (ho : i.operand = 0) : Statement i := by
  refine ⟨he.trans hl.symm, hl.ge, hl.le.trans (by decide), ?_⟩
  exact wellFormed_of hm (ho ▸ Nat.pow_pos (by decide))

theorem of_f2 (i : Instr) (b : Byte) (hl : i.length = 2) (he : (encode i).length = 2)
    (hm : i.toLine.modeAvailable = true) (ho : i.operand = b.toNat) : Statement i := by
  refine ⟨he.trans hl.symm, by omega, by omega, ?_⟩
  have hb := b.isLt
  have hl' : i.mode.length = 2 := hl
  exact wellFormed_of hm (by rw [ho, hl']; exact hb)

theorem of_f3 (i : Instr) (w : Word) (hl : i.length = 3) (he : (encode i).length = 3)
    (hm : i.toLine.modeAvailable = true) (ho : i.operand = w.toNat) : Statement i := by
  refine ⟨he.trans hl.symm, by omega, by omega, ?_⟩
  have hw := w.isLt
  have hl' : i.mode.length = 3 := hl
  exact wellFormed_of hm (by rw [ho, hl']; exact hw)

theorem ldaImm (b : Byte) : Statement (.ldaImm b) := of_f2 _ b rfl rfl rfl rfl
theorem ldaZp (b : Byte) : Statement (.ldaZp b) := of_f2 _ b rfl rfl rfl rfl
theorem ldaZpx (b : Byte) : Statement (.ldaZpx b) := of_f2 _ b rfl rfl rfl rfl
theorem ldaAbs (w : Word) : Statement (.ldaAbs w) := of_f3 _ w rfl rfl rfl rfl
theorem ldaAbx (w : Word) : Statement (.ldaAbx w) := of_f3 _ w rfl rfl rfl rfl
theorem ldaAby (w : Word) : Statement (.ldaAby w) := of_f3 _ w rfl rfl rfl rfl
theorem ldaIzx (b : Byte) : Statement (.ldaIzx b) := of_f2 _ b rfl rfl rfl rfl
theorem ldaIzy (b : Byte) : Statement (.ldaIzy b) := of_f2 _ b rfl rfl rfl rfl
theorem ldxImm (b : Byte) : Statement (.ldxImm b) := of_f2 _ b rfl rfl rfl rfl
theorem ldxZp (b : Byte) : Statement (.ldxZp b) := of_f2 _ b rfl rfl rfl rfl
theorem ldxZpy (b : Byte) : Statement (.ldxZpy b) := of_f2 _ b rfl rfl rfl rfl
theorem ldxAbs (w : Word) : Statement (.ldxAbs w) := of_f3 _ w rfl rfl rfl rfl
theorem ldxAby (w : Word) : Statement (.ldxAby w) := of_f3 _ w rfl rfl rfl rfl
theorem ldyImm (b : Byte) : Statement (.ldyImm b) := of_f2 _ b rfl rfl rfl rfl
theorem ldyZp (b : Byte) : Statement (.ldyZp b) := of_f2 _ b rfl rfl rfl rfl
theorem ldyZpx (b : Byte) : Statement (.ldyZpx b) := of_f2 _ b rfl rfl rfl rfl
theorem ldyAbs (w : Word) : Statement (.ldyAbs w) := of_f3 _ w rfl rfl rfl rfl
theorem ldyAbx (w : Word) : Statement (.ldyAbx w) := of_f3 _ w rfl rfl rfl rfl
theorem staZp (b : Byte) : Statement (.staZp b) := of_f2 _ b rfl rfl rfl rfl
theorem staZpx (b : Byte) : Statement (.staZpx b) := of_f2 _ b rfl rfl rfl rfl
theorem staAbs (w : Word) : Statement (.staAbs w) := of_f3 _ w rfl rfl rfl rfl
theorem staAbx (w : Word) : Statement (.staAbx w) := of_f3 _ w rfl rfl rfl rfl
theorem staAby (w : Word) : Statement (.staAby w) := of_f3 _ w rfl rfl rfl rfl
theorem staIzx (b : Byte) : Statement (.staIzx b) := of_f2 _ b rfl rfl rfl rfl
theorem staIzy (b : Byte) : Statement (.staIzy b) := of_f2 _ b rfl rfl rfl rfl
theorem stxZp (b : Byte) : Statement (.stxZp b) := of_f2 _ b rfl rfl rfl rfl
theorem stxZpy (b : Byte) : Statement (.stxZpy b) := of_f2 _ b rfl rfl rfl rfl
theorem stxAbs (w : Word) : Statement (.stxAbs w) := of_f3 _ w rfl rfl rfl rfl
theorem styZp (b : Byte) : Statement (.styZp b) := of_f2 _ b rfl rfl rfl rfl
theorem styZpx (b : Byte) : Statement (.styZpx b) := of_f2 _ b rfl rfl rfl rfl
theorem styAbs (w : Word) : Statement (.styAbs w) := of_f3 _ w rfl rfl rfl rfl
theorem tax : Statement .tax := of_f1 _ rfl rfl rfl rfl
theorem tay : Statement .tay := of_f1 _ rfl rfl rfl rfl
theorem txa : Statement .txa := of_f1 _ rfl rfl rfl rfl
theorem tya : Statement .tya := of_f1 _ rfl rfl rfl rfl
theorem tsx : Statement .tsx := of_f1 _ rfl rfl rfl rfl
theorem txs : Statement .txs := of_f1 _ rfl rfl rfl rfl
theorem pha : Statement .pha := of_f1 _ rfl rfl rfl rfl
theorem php : Statement .php := of_f1 _ rfl rfl rfl rfl
theorem pla : Statement .pla := of_f1 _ rfl rfl rfl rfl
theorem plp : Statement .plp := of_f1 _ rfl rfl rfl rfl
theorem andImm (b : Byte) : Statement (.andImm b) := of_f2 _ b rfl rfl rfl rfl
theorem andZp (b : Byte) : Statement (.andZp b) := of_f2 _ b rfl rfl rfl rfl
theorem andZpx (b : Byte) : Statement (.andZpx b) := of_f2 _ b rfl rfl rfl rfl
theorem andAbs (w : Word) : Statement (.andAbs w) := of_f3 _ w rfl rfl rfl rfl
theorem andAbx (w : Word) : Statement (.andAbx w) := of_f3 _ w rfl rfl rfl rfl
theorem andAby (w : Word) : Statement (.andAby w) := of_f3 _ w rfl rfl rfl rfl
theorem andIzx (b : Byte) : Statement (.andIzx b) := of_f2 _ b rfl rfl rfl rfl
theorem andIzy (b : Byte) : Statement (.andIzy b) := of_f2 _ b rfl rfl rfl rfl
theorem eorImm (b : Byte) : Statement (.eorImm b) := of_f2 _ b rfl rfl rfl rfl
theorem eorZp (b : Byte) : Statement (.eorZp b) := of_f2 _ b rfl rfl rfl rfl
theorem eorZpx (b : Byte) : Statement (.eorZpx b) := of_f2 _ b rfl rfl rfl rfl
theorem eorAbs (w : Word) : Statement (.eorAbs w) := of_f3 _ w rfl rfl rfl rfl
theorem eorAbx (w : Word) : Statement (.eorAbx w) := of_f3 _ w rfl rfl rfl rfl
theorem eorAby (w : Word) : Statement (.eorAby w) := of_f3 _ w rfl rfl rfl rfl
theorem eorIzx (b : Byte) : Statement (.eorIzx b) := of_f2 _ b rfl rfl rfl rfl
theorem eorIzy (b : Byte) : Statement (.eorIzy b) := of_f2 _ b rfl rfl rfl rfl
theorem oraImm (b : Byte) : Statement (.oraImm b) := of_f2 _ b rfl rfl rfl rfl
theorem oraZp (b : Byte) : Statement (.oraZp b) := of_f2 _ b rfl rfl rfl rfl
theorem oraZpx (b : Byte) : Statement (.oraZpx b) := of_f2 _ b rfl rfl rfl rfl
theorem oraAbs (w : Word) : Statement (.oraAbs w) := of_f3 _ w rfl rfl rfl rfl
theorem oraAbx (w : Word) : Statement (.oraAbx w) := of_f3 _ w rfl rfl rfl rfl
theorem oraAby (w : Word) : Statement (.oraAby w) := of_f3 _ w rfl rfl rfl rfl
theorem oraIzx (b : Byte) : Statement (.oraIzx b) := of_f2 _ b rfl rfl rfl rfl
theorem oraIzy (b : Byte) : Statement (.oraIzy b) := of_f2 _ b rfl rfl rfl rfl
theorem bitZp (b : Byte) : Statement (.bitZp b) := of_f2 _ b rfl rfl rfl rfl
theorem bitAbs (w : Word) : Statement (.bitAbs w) := of_f3 _ w rfl rfl rfl rfl
theorem adcImm (b : Byte) : Statement (.adcImm b) := of_f2 _ b rfl rfl rfl rfl
theorem adcZp (b : Byte) : Statement (.adcZp b) := of_f2 _ b rfl rfl rfl rfl
theorem adcZpx (b : Byte) : Statement (.adcZpx b) := of_f2 _ b rfl rfl rfl rfl
theorem adcAbs (w : Word) : Statement (.adcAbs w) := of_f3 _ w rfl rfl rfl rfl
theorem adcAbx (w : Word) : Statement (.adcAbx w) := of_f3 _ w rfl rfl rfl rfl
theorem adcAby (w : Word) : Statement (.adcAby w) := of_f3 _ w rfl rfl rfl rfl
theorem adcIzx (b : Byte) : Statement (.adcIzx b) := of_f2 _ b rfl rfl rfl rfl
theorem adcIzy (b : Byte) : Statement (.adcIzy b) := of_f2 _ b rfl rfl rfl rfl
theorem sbcImm (b : Byte) : Statement (.sbcImm b) := of_f2 _ b rfl rfl rfl rfl
theorem sbcZp (b : Byte) : Statement (.sbcZp b) := of_f2 _ b rfl rfl rfl rfl
theorem sbcZpx (b : Byte) : Statement (.sbcZpx b) := of_f2 _ b rfl rfl rfl rfl
theorem sbcAbs (w : Word) : Statement (.sbcAbs w) := of_f3 _ w rfl rfl rfl rfl
theorem sbcAbx (w : Word) : Statement (.sbcAbx w) := of_f3 _ w rfl rfl rfl rfl
theorem sbcAby (w : Word) : Statement (.sbcAby w) := of_f3 _ w rfl rfl rfl rfl
theorem sbcIzx (b : Byte) : Statement (.sbcIzx b) := of_f2 _ b rfl rfl rfl rfl
theorem sbcIzy (b : Byte) : Statement (.sbcIzy b) := of_f2 _ b rfl rfl rfl rfl
theorem cmpImm (b : Byte) : Statement (.cmpImm b) := of_f2 _ b rfl rfl rfl rfl
theorem cmpZp (b : Byte) : Statement (.cmpZp b) := of_f2 _ b rfl rfl rfl rfl
theorem cmpZpx (b : Byte) : Statement (.cmpZpx b) := of_f2 _ b rfl rfl rfl rfl
theorem cmpAbs (w : Word) : Statement (.cmpAbs w) := of_f3 _ w rfl rfl rfl rfl
theorem cmpAbx (w : Word) : Statement (.cmpAbx w) := of_f3 _ w rfl rfl rfl rfl
theorem cmpAby (w : Word) : Statement (.cmpAby w) := of_f3 _ w rfl rfl rfl rfl
theorem cmpIzx (b : Byte) : Statement (.cmpIzx b) := of_f2 _ b rfl rfl rfl rfl
theorem cmpIzy (b : Byte) : Statement (.cmpIzy b) := of_f2 _ b rfl rfl rfl rfl
theorem cpxImm (b : Byte) : Statement (.cpxImm b) := of_f2 _ b rfl rfl rfl rfl
theorem cpxZp (b : Byte) : Statement (.cpxZp b) := of_f2 _ b rfl rfl rfl rfl
theorem cpxAbs (w : Word) : Statement (.cpxAbs w) := of_f3 _ w rfl rfl rfl rfl
theorem cpyImm (b : Byte) : Statement (.cpyImm b) := of_f2 _ b rfl rfl rfl rfl
theorem cpyZp (b : Byte) : Statement (.cpyZp b) := of_f2 _ b rfl rfl rfl rfl
theorem cpyAbs (w : Word) : Statement (.cpyAbs w) := of_f3 _ w rfl rfl rfl rfl
theorem incZp (b : Byte) : Statement (.incZp b) := of_f2 _ b rfl rfl rfl rfl
theorem incZpx (b : Byte) : Statement (.incZpx b) := of_f2 _ b rfl rfl rfl rfl
theorem incAbs (w : Word) : Statement (.incAbs w) := of_f3 _ w rfl rfl rfl rfl
theorem incAbx (w : Word) : Statement (.incAbx w) := of_f3 _ w rfl rfl rfl rfl
theorem inx : Statement .inx := of_f1 _ rfl rfl rfl rfl
theorem iny : Statement .iny := of_f1 _ rfl rfl rfl rfl
theorem decZp (b : Byte) : Statement (.decZp b) := of_f2 _ b rfl rfl rfl rfl
theorem decZpx (b : Byte) : Statement (.decZpx b) := of_f2 _ b rfl rfl rfl rfl
theorem decAbs (w : Word) : Statement (.decAbs w) := of_f3 _ w rfl rfl rfl rfl
theorem decAbx (w : Word) : Statement (.decAbx w) := of_f3 _ w rfl rfl rfl rfl
theorem dex : Statement .dex := of_f1 _ rfl rfl rfl rfl
theorem dey : Statement .dey := of_f1 _ rfl rfl rfl rfl
theorem aslAcc : Statement .aslAcc := of_f1 _ rfl rfl rfl rfl
theorem aslZp (b : Byte) : Statement (.aslZp b) := of_f2 _ b rfl rfl rfl rfl
theorem aslZpx (b : Byte) : Statement (.aslZpx b) := of_f2 _ b rfl rfl rfl rfl
theorem aslAbs (w : Word) : Statement (.aslAbs w) := of_f3 _ w rfl rfl rfl rfl
theorem aslAbx (w : Word) : Statement (.aslAbx w) := of_f3 _ w rfl rfl rfl rfl
theorem lsrAcc : Statement .lsrAcc := of_f1 _ rfl rfl rfl rfl
theorem lsrZp (b : Byte) : Statement (.lsrZp b) := of_f2 _ b rfl rfl rfl rfl
theorem lsrZpx (b : Byte) : Statement (.lsrZpx b) := of_f2 _ b rfl rfl rfl rfl
theorem lsrAbs (w : Word) : Statement (.lsrAbs w) := of_f3 _ w rfl rfl rfl rfl
theorem lsrAbx (w : Word) : Statement (.lsrAbx w) := of_f3 _ w rfl rfl rfl rfl
theorem rolAcc : Statement .rolAcc := of_f1 _ rfl rfl rfl rfl
theorem rolZp (b : Byte) : Statement (.rolZp b) := of_f2 _ b rfl rfl rfl rfl
theorem rolZpx (b : Byte) : Statement (.rolZpx b) := of_f2 _ b rfl rfl rfl rfl
theorem rolAbs (w : Word) : Statement (.rolAbs w) := of_f3 _ w rfl rfl rfl rfl
theorem rolAbx (w : Word) : Statement (.rolAbx w) := of_f3 _ w rfl rfl rfl rfl
theorem rorAcc : Statement .rorAcc := of_f1 _ rfl rfl rfl rfl
theorem rorZp (b : Byte) : Statement (.rorZp b) := of_f2 _ b rfl rfl rfl rfl
theorem rorZpx (b : Byte) : Statement (.rorZpx b) := of_f2 _ b rfl rfl rfl rfl
theorem rorAbs (w : Word) : Statement (.rorAbs w) := of_f3 _ w rfl rfl rfl rfl
theorem rorAbx (w : Word) : Statement (.rorAbx w) := of_f3 _ w rfl rfl rfl rfl
theorem jmpAbs (w : Word) : Statement (.jmpAbs w) := of_f3 _ w rfl rfl rfl rfl
theorem jmpInd (w : Word) : Statement (.jmpInd w) := of_f3 _ w rfl rfl rfl rfl
theorem jsr (w : Word) : Statement (.jsr w) := of_f3 _ w rfl rfl rfl rfl
theorem rts : Statement .rts := of_f1 _ rfl rfl rfl rfl
theorem bcc (b : Byte) : Statement (.bcc b) := of_f2 _ b rfl rfl rfl rfl
theorem bcs (b : Byte) : Statement (.bcs b) := of_f2 _ b rfl rfl rfl rfl
theorem beq (b : Byte) : Statement (.beq b) := of_f2 _ b rfl rfl rfl rfl
theorem bmi (b : Byte) : Statement (.bmi b) := of_f2 _ b rfl rfl rfl rfl
theorem bne (b : Byte) : Statement (.bne b) := of_f2 _ b rfl rfl rfl rfl
theorem bpl (b : Byte) : Statement (.bpl b) := of_f2 _ b rfl rfl rfl rfl
theorem bvc (b : Byte) : Statement (.bvc b) := of_f2 _ b rfl rfl rfl rfl
theorem bvs (b : Byte) : Statement (.bvs b) := of_f2 _ b rfl rfl rfl rfl
theorem clc : Statement .clc := of_f1 _ rfl rfl rfl rfl
theorem cld : Statement .cld := of_f1 _ rfl rfl rfl rfl
theorem cli : Statement .cli := of_f1 _ rfl rfl rfl rfl
theorem clv : Statement .clv := of_f1 _ rfl rfl rfl rfl
theorem sec : Statement .sec := of_f1 _ rfl rfl rfl rfl
theorem sed : Statement .sed := of_f1 _ rfl rfl rfl rfl
theorem sei : Statement .sei := of_f1 _ rfl rfl rfl rfl
theorem brk : Statement .brk := of_f1 _ rfl rfl rfl rfl
theorem nop : Statement .nop := of_f1 _ rfl rfl rfl rfl
theorem rti : Statement .rti := of_f1 _ rfl rfl rfl rfl

end Sys2Proof.Laws.EncodedLength
end

