-- ==== Sys2Proof/Laws/Step.lean ====
section
/-! SUPPORT. What a step can do, said once. -/

namespace Sys2Proof.Machine

/-- The state after a fetch (R50): only the record of device accesses can have grown. -/
theorem fetch_state {s v : State} {i : Instr} (h : fetch s = .ok (i, v)) : v = { s with bus := v.bus } := by
  simp only [fetch] at h
  split at h
  · cases h; rfl
  · cases h; rfl
  · cases h; rfl
  · exact absurd h (by simp)

/-- A next state is what a boundary event gives, or what the fetched instruction gives, after the loads of its bytes,
with its cycles charged. -/
theorem step_cases {s t : State} (h : step s = .next t) :
    s.boundaryEvent = some t ∨
      (s.boundaryEvent = none ∧ ∃ i v u, fetch s = .ok (i, v) ∧ exec i v = .next u ∧
        t = { u with cycles := u.cycles + instrCycles i v }) := by
  unfold step at h
  split at h
  · rename_i e he
    exact .inl (by rw [he, Host.Outcome.next.inj h])
  · rename_i he
    split at h
    · rename_i i v hi
      cases hx : exec i v with
      | next u =>
        rw [hx, chargeCycles] at h
        exact .inr ⟨he, i, v, u, hi, hx, (Host.Outcome.next.inj h).symm⟩
      | fault f => cases f
      | refused r => rw [hx, chargeCycles] at h; exact absurd h (by simp)
    · exact absurd h (by simp)

/-- Where no line is served, the boundary serves nothing. -/
theorem boundaryEvent_eq_none {s : State} : s.boundaryEvent = none ↔ NoBoundaryEvent s := by
  unfold State.boundaryEvent NoBoundaryEvent
  cases s.resetLine <;> cases s.nmiPending <;> cases s.irqLine <;> cases s.flagI <;> simp

end Sys2Proof.Machine
end

