-- ==== Sys2Proof/Laws/Stores.lean ====
section
/-! SUPPORT. What one store and a sequence of stores do to memory and to the record of device accesses. -/

namespace Sys2Proof.Machine

/-- One store, whatever is behind the address (R46, R44). -/
theorem storesByte_store (s : State) (addr : Word) (v : Byte) : StoresByte s (s.store addr v) addr v := by
  refine ⟨fun b => ?_, rfl⟩
  rw [State.mem_read_store]
  by_cases h : b = addr
  · subst h
    by_cases hk : s.kindAt b = .ram <;> simp [hk, lastWritten]
  · simp [h, Ne.symm h, lastWritten]

/-- What is stored depends on memory, the record of device accesses and the map alone. -/
theorem Stores.congr {s s' t t' : State} {writes : List (Word × Byte)} (h : Stores s t writes)
    (hp : s'.params = s.params) (hm : s'.mem = s.mem) (hb : s'.bus = s.bus) (tm : t'.mem = t.mem) (tb : t'.bus = t.bus) :
    Stores s' t' writes := by
  have hk : s'.kindAt = s.kindAt := funext fun b => State.kindAt_congr hp b
  refine ⟨fun b => ?_, ?_⟩
  · rw [tm, hm, hk]
    exact h.1 b
  · rw [tb, h.2]
    simp only [recordWrites, hk, hb]

/-- Stores one after the other. -/
theorem Stores.append {s t u : State} {ws ws' : List (Word × Byte)} (h : Stores s t ws) (hp : t.params = s.params)
    (h' : Stores t u ws') : Stores s u (ws ++ ws') := by
  have hk : t.kindAt = s.kindAt := funext fun b => State.kindAt_congr hp b
  refine ⟨fun b => ?_, ?_⟩
  · rw [h'.1 b, h.1 b, hk]
    by_cases hr : s.kindAt b = .ram <;> simp [hr, lastWritten]
  · rw [h'.2]
    simp only [recordWrites, hk, h.2, List.foldl_append]

/-- A push stores one byte at the address S designates (R17). -/
theorem storesByte_push (s : State) (v : Byte) : StoresByte s (s.push v) (stackAddr s.sp) v :=
  (storesByte_store s (stackAddr s.sp) v).congr rfl rfl rfl rfl rfl

end Sys2Proof.Machine
end

