-- ==== Sys2Proof/Tests/Slice0.lean ====
section
/-! SUPPORT. Tests: ill-formed lines are refused, words written out from the spec's encodings decode, one step on
small states gives what `95_test_vectors.md` says, the assembler's examples, and a witness for the hypotheses of
each statement that has any. Expected results come from the spec's own files. -/

namespace Sys2Proof.Tests

set_option Elab.async false

open Sys2Proof Sys2Proof.Machine

/-! ### Helpers -/

/-- The state a result leads to. -/
def after : Result → Option State
  | .next t => some t
  | .fault _ => none
  | .refused _ => none

theorem next_of_after {r : Result} {t : State} (h : after r = some t) : r = .next t := by
  cases r <;> simp_all [after]

theorem next_of_isSome {r : Result} (h : (after r).isSome = true) : ∃ t, r = .next t := by
  obtain ⟨t, ht⟩ := Option.isSome_iff_exists.mp h
  exact ⟨t, next_of_after ht⟩

/-- The refusal of a result. -/
def refusal : Result → Option Refusal
  | .next _ => none
  | .fault _ => none
  | .refused r => some r

/-- Puts cells into memory. -/
def put (cells : List (Word × Byte)) (s : State) : State := cells.foldl (fun t c => t.poke c.1 c.2) s

/-- The state after reset under the spec's default parameters, with bytes at an address and PC there. -/
def start (pc : Word) (bytes : List Byte) : State :=
  { State.reset with pc := pc, params := specParams }.placeBytes pc bytes

/-- One step from such a state, changed by `f`. -/
def run (pc : Word) (bytes : List Byte) (f : State → State) : Option State := after (step (f (start pc bytes)))

/-! ### WellFormed refuses an ill-formed line, one per check -/

/-- `STA #$10`: STA has no Immediate mode (R93). -/
theorem test_wellFormed_refuses_missing_mode :
    (Line.mk .sta .imm 0x10).modeAvailable = false ∧ (Line.mk .sta .imm 0x10).wellFormed = false := by decide +kernel

/-- `LDA #256`: an Immediate operand has one byte (R70, R76). -/
theorem test_wellFormed_refuses_wide_byte_operand :
    (Line.mk .lda .imm 256).operandFits = false ∧ (Line.mk .lda .imm 256).wellFormed = false ∧
      (Line.mk .lda .imm 255).wellFormed = true := by decide +kernel

/-- `JMP $10000`: an Absolute operand has two bytes (R70, R81). -/
theorem test_wellFormed_refuses_wide_word_operand :
    (Line.mk .jmp .abs 65536).operandFits = false ∧ (Line.mk .jmp .abs 65536).wellFormed = false ∧
      (Line.mk .jmp .abs 65535).wellFormed = true := by decide +kernel

/-- `NOP 1`: an Implied instruction has no operand byte (R70, R74). -/
theorem test_wellFormed_refuses_operand_of_implied :
    (Line.mk .nop .imp 1).operandFits = false ∧ (Line.mk .nop .imp 1).wellFormed = false := by decide +kernel

/-! ### Decoding: every constructor, its opcode written bit by bit from `opcode_table.json`'s `encoding` -/

theorem test_decode_loadStore_1 :
    [[0b10101001, 0b01011100],
     [0b10100101, 0b01011100],
     [0b10110101, 0b01011100],
     [0b10101101, 0b00110100, 0b00010010],
     [0b10111101, 0b00110100, 0b00010010],
     [0b10111001, 0b00110100, 0b00010010],
     [0b10100001, 0b01011100],
     [0b10110001, 0b01011100],
     [0b10100010, 0b01011100],
     [0b10100110, 0b01011100],
     [0b10110110, 0b01011100],
     [0b10101110, 0b00110100, 0b00010010],
     [0b10111110, 0b00110100, 0b00010010],
     [0b10100000, 0b01011100],
     [0b10100100, 0b01011100],
     [0b10110100, 0b01011100]].map decode =
    ([.ldaImm 0x5C, .ldaZp 0x5C, .ldaZpx 0x5C, .ldaAbs 0x1234, .ldaAbx 0x1234, .ldaAby 0x1234, .ldaIzx 0x5C,
      .ldaIzy 0x5C, .ldxImm 0x5C, .ldxZp 0x5C, .ldxZpy 0x5C, .ldxAbs 0x1234, .ldxAby 0x1234, .ldyImm 0x5C,
      .ldyZp 0x5C, .ldyZpx 0x5C] : List Instr).map (fun i => .ok (i, [])) := by
  decide +kernel

theorem test_decode_loadStore_2 :
    [[0b10101100, 0b00110100, 0b00010010],
     [0b10111100, 0b00110100, 0b00010010],
     [0b10000101, 0b01011100],
     [0b10010101, 0b01011100],
     [0b10001101, 0b00110100, 0b00010010],
     [0b10011101, 0b00110100, 0b00010010],
     [0b10011001, 0b00110100, 0b00010010],
     [0b10000001, 0b01011100],
     [0b10010001, 0b01011100],
     [0b10000110, 0b01011100],
     [0b10010110, 0b01011100],
     [0b10001110, 0b00110100, 0b00010010],
     [0b10000100, 0b01011100],
     [0b10010100, 0b01011100],
     [0b10001100, 0b00110100, 0b00010010]].map decode =
    ([.ldyAbs 0x1234, .ldyAbx 0x1234, .staZp 0x5C, .staZpx 0x5C, .staAbs 0x1234, .staAbx 0x1234, .staAby 0x1234,
      .staIzx 0x5C, .staIzy 0x5C, .stxZp 0x5C, .stxZpy 0x5C, .stxAbs 0x1234, .styZp 0x5C, .styZpx 0x5C,
      .styAbs 0x1234] : List Instr).map (fun i => .ok (i, [])) := by
  decide +kernel

theorem test_decode_transfer :
    [[0b10101010],
     [0b10101000],
     [0b10001010],
     [0b10011000],
     [0b10111010],
     [0b10011010],
     [0b01001000],
     [0b00001000],
     [0b01101000],
     [0b00101000]].map decode =
    ([.tax, .tay, .txa, .tya, .tsx, .txs, .pha, .php, .pla, .plp] : List Instr).map (fun i => .ok (i, [])) := by
  decide +kernel

theorem test_decode_logical_1 :
    [[0b00101001, 0b01011100],
     [0b00100101, 0b01011100],
     [0b00110101, 0b01011100],
     [0b00101101, 0b00110100, 0b00010010],
     [0b00111101, 0b00110100, 0b00010010],
     [0b00111001, 0b00110100, 0b00010010],
     [0b00100001, 0b01011100],
     [0b00110001, 0b01011100],
     [0b01001001, 0b01011100],
     [0b01000101, 0b01011100],
     [0b01010101, 0b01011100],
     [0b01001101, 0b00110100, 0b00010010],
     [0b01011101, 0b00110100, 0b00010010],
     [0b01011001, 0b00110100, 0b00010010],
     [0b01000001, 0b01011100],
     [0b01010001, 0b01011100]].map decode =
    ([.andImm 0x5C, .andZp 0x5C, .andZpx 0x5C, .andAbs 0x1234, .andAbx 0x1234, .andAby 0x1234, .andIzx 0x5C,
      .andIzy 0x5C, .eorImm 0x5C, .eorZp 0x5C, .eorZpx 0x5C, .eorAbs 0x1234, .eorAbx 0x1234, .eorAby 0x1234,
      .eorIzx 0x5C, .eorIzy 0x5C] : List Instr).map (fun i => .ok (i, [])) := by
  decide +kernel

theorem test_decode_logical_2 :
    [[0b00001001, 0b01011100],
     [0b00000101, 0b01011100],
     [0b00010101, 0b01011100],
     [0b00001101, 0b00110100, 0b00010010],
     [0b00011101, 0b00110100, 0b00010010],
     [0b00011001, 0b00110100, 0b00010010],
     [0b00000001, 0b01011100],
     [0b00010001, 0b01011100],
     [0b00100100, 0b01011100],
     [0b00101100, 0b00110100, 0b00010010]].map decode =
    ([.oraImm 0x5C, .oraZp 0x5C, .oraZpx 0x5C, .oraAbs 0x1234, .oraAbx 0x1234, .oraAby 0x1234, .oraIzx 0x5C,
      .oraIzy 0x5C, .bitZp 0x5C, .bitAbs 0x1234] : List Instr).map (fun i => .ok (i, [])) := by
  decide +kernel

theorem test_decode_arithmetic_1 :
    [[0b01101001, 0b01011100],
     [0b01100101, 0b01011100],
     [0b01110101, 0b01011100],
     [0b01101101, 0b00110100, 0b00010010],
     [0b01111101, 0b00110100, 0b00010010],
     [0b01111001, 0b00110100, 0b00010010],
     [0b01100001, 0b01011100],
     [0b01110001, 0b01011100],
     [0b11101001, 0b01011100],
     [0b11100101, 0b01011100],
     [0b11110101, 0b01011100],
     [0b11101101, 0b00110100, 0b00010010],
     [0b11111101, 0b00110100, 0b00010010],
     [0b11111001, 0b00110100, 0b00010010],
     [0b11100001, 0b01011100],
     [0b11110001, 0b01011100]].map decode =
    ([.adcImm 0x5C, .adcZp 0x5C, .adcZpx 0x5C, .adcAbs 0x1234, .adcAbx 0x1234, .adcAby 0x1234, .adcIzx 0x5C,
      .adcIzy 0x5C, .sbcImm 0x5C, .sbcZp 0x5C, .sbcZpx 0x5C, .sbcAbs 0x1234, .sbcAbx 0x1234, .sbcAby 0x1234,
      .sbcIzx 0x5C, .sbcIzy 0x5C] : List Instr).map (fun i => .ok (i, [])) := by
  decide +kernel

theorem test_decode_arithmetic_2 :
    [[0b11001001, 0b01011100],
     [0b11000101, 0b01011100],
     [0b11010101, 0b01011100],
     [0b11001101, 0b00110100, 0b00010010],
     [0b11011101, 0b00110100, 0b00010010],
     [0b11011001, 0b00110100, 0b00010010],
     [0b11000001, 0b01011100],
     [0b11010001, 0b01011100],
     [0b11100000, 0b01011100],
     [0b11100100, 0b01011100],
     [0b11101100, 0b00110100, 0b00010010],
     [0b11000000, 0b01011100],
     [0b11000100, 0b01011100],
     [0b11001100, 0b00110100, 0b00010010]].map decode =
    ([.cmpImm 0x5C, .cmpZp 0x5C, .cmpZpx 0x5C, .cmpAbs 0x1234, .cmpAbx 0x1234, .cmpAby 0x1234, .cmpIzx 0x5C,
      .cmpIzy 0x5C, .cpxImm 0x5C, .cpxZp 0x5C, .cpxAbs 0x1234, .cpyImm 0x5C, .cpyZp 0x5C,
      .cpyAbs 0x1234] : List Instr).map (fun i => .ok (i, [])) := by
  decide +kernel

theorem test_decode_incDec :
    [[0b11100110, 0b01011100],
     [0b11110110, 0b01011100],
     [0b11101110, 0b00110100, 0b00010010],
     [0b11111110, 0b00110100, 0b00010010],
     [0b11101000],
     [0b11001000],
     [0b11000110, 0b01011100],
     [0b11010110, 0b01011100],
     [0b11001110, 0b00110100, 0b00010010],
     [0b11011110, 0b00110100, 0b00010010],
     [0b11001010],
     [0b10001000]].map decode =
    ([.incZp 0x5C, .incZpx 0x5C, .incAbs 0x1234, .incAbx 0x1234, .inx, .iny, .decZp 0x5C, .decZpx 0x5C,
      .decAbs 0x1234, .decAbx 0x1234, .dex, .dey] : List Instr).map (fun i => .ok (i, [])) := by
  decide +kernel

theorem test_decode_shift_1 :
    [[0b00001010],
     [0b00000110, 0b01011100],
     [0b00010110, 0b01011100],
     [0b00001110, 0b00110100, 0b00010010],
     [0b00011110, 0b00110100, 0b00010010],
     [0b01001010],
     [0b01000110, 0b01011100],
     [0b01010110, 0b01011100],
     [0b01001110, 0b00110100, 0b00010010],
     [0b01011110, 0b00110100, 0b00010010],
     [0b00101010],
     [0b00100110, 0b01011100],
     [0b00110110, 0b01011100],
     [0b00101110, 0b00110100, 0b00010010],
     [0b00111110, 0b00110100, 0b00010010],
     [0b01101010]].map decode =
    ([.aslAcc, .aslZp 0x5C, .aslZpx 0x5C, .aslAbs 0x1234, .aslAbx 0x1234, .lsrAcc, .lsrZp 0x5C, .lsrZpx 0x5C,
      .lsrAbs 0x1234, .lsrAbx 0x1234, .rolAcc, .rolZp 0x5C, .rolZpx 0x5C, .rolAbs 0x1234, .rolAbx 0x1234,
      .rorAcc] : List Instr).map (fun i => .ok (i, [])) := by
  decide +kernel

theorem test_decode_shift_2 :
    [[0b01100110, 0b01011100],
     [0b01110110, 0b01011100],
     [0b01101110, 0b00110100, 0b00010010],
     [0b01111110, 0b00110100, 0b00010010]].map decode =
    ([.rorZp 0x5C, .rorZpx 0x5C, .rorAbs 0x1234, .rorAbx 0x1234] : List Instr).map (fun i => .ok (i, [])) := by
  decide +kernel

theorem test_decode_jump :
    [[0b01001100, 0b00110100, 0b00010010],
     [0b01101100, 0b00110100, 0b00010010],
     [0b00100000, 0b00110100, 0b00010010],
     [0b01100000]].map decode =
    ([.jmpAbs 0x1234, .jmpInd 0x1234, .jsr 0x1234, .rts] : List Instr).map (fun i => .ok (i, [])) := by
  decide +kernel

theorem test_decode_branch :
    [[0b10010000, 0b01011100],
     [0b10110000, 0b01011100],
     [0b11110000, 0b01011100],
     [0b00110000, 0b01011100],
     [0b11010000, 0b01011100],
     [0b00010000, 0b01011100],
     [0b01010000, 0b01011100],
     [0b01110000, 0b01011100]].map decode =
    ([.bcc 0x5C, .bcs 0x5C, .beq 0x5C, .bmi 0x5C, .bne 0x5C, .bpl 0x5C, .bvc 0x5C,
      .bvs 0x5C] : List Instr).map (fun i => .ok (i, [])) := by
  decide +kernel

theorem test_decode_status :
    [[0b00011000],
     [0b11011000],
     [0b01011000],
     [0b10111000],
     [0b00111000],
     [0b11111000],
     [0b01111000]].map decode =
    ([.clc, .cld, .cli, .clv, .sec, .sed, .sei] : List Instr).map (fun i => .ok (i, [])) := by
  decide +kernel

theorem test_decode_system :
    [[0b00000000],
     [0b11101010],
     [0b01000000]].map decode =
    ([.brk, .nop, .rti] : List Instr).map (fun i => .ok (i, [])) := by
  decide +kernel

/-- Bytes the spec lists no instruction for (R95), and bytes that end too soon. -/
theorem test_decode_refuses :
    decode [0b00000010, 0x00, 0x00] = .error (.unlistedOpcode 0x02) ∧
      decode [0b11111111] = .error (.unlistedOpcode 0xFF) ∧
      decode [0b10000000, 0x00] = .error (.unlistedOpcode 0x80) ∧
      decode [] = .error .truncated ∧ decode [0b10101001] = .error .truncated ∧
      decode [0b01001100, 0x34] = .error .truncated := by
  decide +kernel

/-- The numbering of `opcode_table.json`: bit 0 is the least significant bit of the first byte. -/
theorem test_decodeTableWord :
    decodeTableWord 24 0x12344C = some (.jmpAbs 0x1234) ∧ decodeTableWord 16 0x0AA9 = some (.ldaImm 0x0A) ∧
      decodeTableWord 8 0xEA = some .nop ∧ decodeTableWord 8 0x02 = none := by
  decide +kernel

/-! ### One step, from the rows of `95_test_vectors.md` section 2 -/

/-- `LDA #$00` (R110): zero result. -/
theorem test_ldaImm :
    (run 0x0200 [0xA9, 0x00] (fun s => { s with flagZ := false, flagN := true })).map
        (fun t => (t.a, t.flagZ, t.flagN)) =
      some (0x00, true, false) := by decide +kernel

/-- `LDA $10` (R110): zero page. -/
theorem test_ldaZp :
    (run 0x0200 [0xA5, 0x10] (fun s => put [(0x0010, 0xFF)] s)).map
        (fun t => (t.a, t.flagZ, t.flagN)) =
      some (0xFF, false, true) := by decide +kernel

/-- `LDA $F0,X` (R110): ZPX wraps: 0xF0+0x20 = 0x110 -> 0x10. -/
theorem test_ldaZpx :
    (run 0x0200 [0xB5, 0xF0] (fun s => put [(0x0010, 0x01)] { s with x := 0x20 })).map
        (fun t => (t.a, t.flagZ, t.flagN)) =
      some (0x01, false, false) := by decide +kernel

/-- `LDA $1234` (R110): absolute, operand low byte first. -/
theorem test_ldaAbs :
    (run 0x0200 [0xAD, 0x34, 0x12] (fun s => put [(0x1234, 0x42)] s)).map
        (fun t => (t.a, t.flagZ, t.flagN)) =
      some (0x42, false, false) := by decide +kernel

/-- `LDA $12FF,X` (R110): ABX page crossed (5 cycles), same result. -/
theorem test_ldaAbx :
    (run 0x0200 [0xBD, 0xFF, 0x12] (fun s => put [(0x1300, 0x99)] { s with x := 0x01 })).map
        (fun t => (t.a, t.flagZ, t.flagN)) =
      some (0x99, false, true) := by decide +kernel

/-- `LDA $FFFF,Y` (R110): ABY wraps past 0xFFFF to 0x0001. -/
theorem test_ldaAby :
    (run 0x0200 [0xB9, 0xFF, 0xFF] (fun s => put [(0x0001, 0x33)] { s with y := 0x02 })).map
        (fun t => (t.a, t.flagZ, t.flagN)) =
      some (0x33, false, false) := by decide +kernel

/-- `LDA ($FF,X)` (R110): IZX index wraps: 0xFF+2 -> 0x01. -/
theorem test_ldaIzx :
    (run 0x0200 [0xA1, 0xFF] (fun s => put [(0x0001, 0x78), (0x0002, 0x56), (0x5678, 0x13)] { s with x := 0x02 })).map
        (fun t => (t.a, t.flagZ, t.flagN)) =
      some (0x13, false, false) := by decide +kernel

/-- `LDA ($40),Y` (R110): IZY: 0x20F8+0x10 = 0x2108, page crossed. -/
theorem test_ldaIzy :
    (run 0x0200 [0xB1, 0x40] (fun s => put [(0x0040, 0xF8), (0x0041, 0x20), (0x2108, 0x14)] { s with y := 0x10 })).map
        (fun t => (t.a, t.flagZ, t.flagN)) =
      some (0x14, false, false) := by decide +kernel

/-- `LDX #$00` (R111): LDX. -/
theorem test_ldxImm :
    (run 0x0200 [0xA2, 0x00] (fun s => { s with flagZ := false, flagN := true })).map
        (fun t => (t.x, t.flagZ, t.flagN)) =
      some (0x00, true, false) := by decide +kernel

/-- `LDX $80,Y` (R111): LDX ZPY wraps (D8). -/
theorem test_ldxZpy :
    (run 0x0200 [0xB6, 0x80] (fun s => put [(0x007F, 0x81)] { s with y := 0xFF })).map
        (fun t => (t.x, t.flagZ, t.flagN)) =
      some (0x81, false, true) := by decide +kernel

/-- `LDX $2000,Y` (R111): LDX ABY. -/
theorem test_ldxAby :
    (run 0x0200 [0xBE, 0x00, 0x20] (fun s => put [(0x2005, 0x44)] { s with y := 0x05 })).map
        (fun t => (t.x, t.flagZ, t.flagN)) =
      some (0x44, false, false) := by decide +kernel

/-- `LDY #$FF` (R112): LDY. -/
theorem test_ldyImm :
    (run 0x0200 [0xA0, 0xFF] (fun s => { s with flagZ := true, flagN := false })).map
        (fun t => (t.y, t.flagZ, t.flagN)) =
      some (0xFF, false, true) := by decide +kernel

/-- `LDY $10,X` (R112): LDY ZPX. -/
theorem test_ldyZpx :
    (run 0x0200 [0xB4, 0x10] (fun s => put [(0x0015, 0x00)] { s with x := 0x05 })).map
        (fun t => (t.y, t.flagZ, t.flagN)) =
      some (0x00, true, false) := by decide +kernel

/-- `LDY $20F0,X` (R112): LDY ABX page crossed. -/
theorem test_ldyAbx :
    (run 0x0200 [0xBC, 0xF0, 0x20] (fun s => put [(0x2110, 0x7E)] { s with x := 0x20 })).map
        (fun t => (t.y, t.flagZ, t.flagN)) =
      some (0x7E, false, false) := by decide +kernel

/-- `STA $10` (R113): STA: flags not affected although A = 0. -/
theorem test_staZp :
    (run 0x0200 [0x85, 0x10] (fun s => { s with a := 0x00, flagZ := false, flagN := true })).map
        (fun t => t.read 0x0010) =
      some 0x00 := by decide +kernel

/-- `STA $FF,X` (R113): STA ZPX wraps to 0x00. -/
theorem test_staZpx :
    (run 0x0200 [0x95, 0xFF] (fun s => { s with a := 0x5A, x := 0x01 })).map
        (fun t => t.read 0x0000) =
      some 0x5A := by decide +kernel

/-- `STA $0200` (R113): store into the next instruction's first byte; the next fetch sees it (R58). -/
theorem test_staAbs :
    (run 0x01FD [0x8D, 0x00, 0x02] (fun s => { s with a := 0xEA })).map
        (fun t => t.read 0x0200) =
      some 0xEA := by decide +kernel

/-- `STA $1280,Y` (R113): STA ABY, 5 cycles always. -/
theorem test_staAby :
    (run 0x0200 [0x99, 0x80, 0x12] (fun s => { s with a := 0x66, y := 0x80 })).map
        (fun t => t.read 0x1300) =
      some 0x66 := by decide +kernel

/-- `STA ($20,X)` (R113): STA IZX: 0x20+0xE0 wraps to 0x00. -/
theorem test_staIzx :
    (run 0x0200 [0x81, 0x20] (fun s => put [(0x0000, 0x34), (0x0001, 0x12)] { s with a := 0x77, x := 0xE0 })).map
        (fun t => t.read 0x1234) =
      some 0x77 := by decide +kernel

/-- `STA ($60),Y` (R113): STA IZY. -/
theorem test_staIzy :
    (run 0x0200 [0x91, 0x60] (fun s => put [(0x0060, 0xFF), (0x0061, 0x02)] { s with a := 0x88, y := 0x01 })).map
        (fun t => t.read 0x0300) =
      some 0x88 := by decide +kernel

/-- `STX $10` (R114): STX. -/
theorem test_stxZp :
    (run 0x0200 [0x86, 0x10] (fun s => { s with x := 0x80, flagN := false })).map
        (fun t => t.read 0x0010) =
      some 0x80 := by decide +kernel

/-- `STX $10,Y` (R114): STX ZPY wraps to 0x08. -/
theorem test_stxZpy :
    (run 0x0200 [0x96, 0x10] (fun s => { s with x := 0x21, y := 0xF8 })).map
        (fun t => t.read 0x0008) =
      some 0x21 := by decide +kernel

/-- `STX $FFFF` (R114): STX to the last byte of memory. -/
theorem test_stxAbs :
    (run 0x0200 [0x8E, 0xFF, 0xFF] (fun s => { s with x := 0x12 })).map
        (fun t => t.read 0xFFFF) =
      some 0x12 := by decide +kernel

/-- `STY $00` (R115): STY. -/
theorem test_styZp :
    (run 0x0200 [0x84, 0x00] (fun s => { s with y := 0x34 })).map
        (fun t => t.read 0x0000) =
      some 0x34 := by decide +kernel

/-- `STY $10,X` (R115): STY ZPX wraps. -/
theorem test_styZpx :
    (run 0x0200 [0x94, 0x10] (fun s => { s with x := 0xF8, y := 0xC3 })).map
        (fun t => t.read 0x0008) =
      some 0xC3 := by decide +kernel

/-- `STY $0100` (R115): STY into the stack page: ordinary memory. -/
theorem test_styAbs :
    (run 0x0200 [0x8C, 0x00, 0x01] (fun s => { s with y := 0x55 })).map
        (fun t => t.read 0x0100) =
      some 0x55 := by decide +kernel

/-- `TAX` (R120): TAX zero. -/
theorem test_tax :
    (run 0x0200 [0xAA] (fun s => { s with a := 0x00, x := 0x55, flagZ := false, flagN := true })).map
        (fun t => (t.x, t.flagZ, t.flagN)) =
      some (0x00, true, false) := by decide +kernel

/-- `TAY` (R121): TAY negative. -/
theorem test_tay :
    (run 0x0200 [0xA8] (fun s => { s with a := 0x80, y := 0x00, flagZ := true, flagN := false })).map
        (fun t => (t.y, t.flagZ, t.flagN)) =
      some (0x80, false, true) := by decide +kernel

/-- `TXA` (R122): TXA. -/
theorem test_txa :
    (run 0x0200 [0x8A] (fun s => { s with a := 0x00, x := 0x7F, flagZ := true, flagN := true })).map
        (fun t => (t.a, t.flagZ, t.flagN)) =
      some (0x7F, false, false) := by decide +kernel

/-- `TYA` (R123): TYA. -/
theorem test_tya :
    (run 0x0200 [0x98] (fun s => { s with a := 0x00, y := 0xFF, flagZ := true, flagN := false })).map
        (fun t => (t.a, t.flagZ, t.flagN)) =
      some (0xFF, false, true) := by decide +kernel

/-- `TSX` (R124): TSX sets Z. -/
theorem test_tsx :
    (run 0x0200 [0xBA] (fun s => { s with x := 0x11, sp := 0x00, flagZ := false, flagN := false })).map
        (fun t => (t.x, t.flagZ)) =
      some (0x00, true) := by decide +kernel

/-- `TXS` (R125): TXS: no flag changes although X = 0. -/
theorem test_txs :
    (run 0x0200 [0x9A] (fun s => { s with x := 0x00, sp := 0xFF, flagZ := false, flagN := true })).map
        (fun t => t.sp) =
      some 0x00 := by decide +kernel

/-- `PHA` (R126): PHA at S = 0x00 writes 0x0100 and wraps S to 0xFF. -/
theorem test_pha :
    (run 0x0200 [0x48] (fun s => { s with a := 0x43, sp := 0x00 })).map
        (fun t => (t.read 0x0100, t.sp)) =
      some (0x43, 0xFF) := by decide +kernel

/-- `PLA` (R128): PLA at S = 0xFF wraps to 0x00, reads 0x0100; sets Z. -/
theorem test_pla :
    (run 0x0200 [0x68] (fun s => put [(0x0100,
      0x00)] { s with a := 0x55, sp := 0xFF, flagZ := false, flagN := true })).map
        (fun t => (t.a, t.sp, t.flagZ, t.flagN)) =
      some (0x00, 0x00, true, false) := by decide +kernel

/-- `PLA` (R128): PLA sets N. -/
theorem test_pla_2 :
    (run 0x0200 [0x68] (fun s => put [(0x01FF,
      0x80)] { s with a := 0x00, sp := 0xFE, flagZ := true, flagN := false })).map
        (fun t => (t.a, t.sp, t.flagZ, t.flagN)) =
      some (0x80, 0xFF, false, true) := by decide +kernel

/-- `PHP` (R127): PHP: 1 1 1 0 0 1 0 1. -/
theorem test_php :
    (run 0x0200 [0x08] (fun s => { s with sp := 0xFF, flagC := true, flagZ := false, flagI := true, flagD := false, flagB := false, flagV := true, flagN := true })).map
        (fun t => (t.read 0x01FF, t.sp)) =
      some (0xE5, 0xFE) := by decide +kernel

/-- `PLP` (R129): PLP 0xFF: all seven set. -/
theorem test_plp :
    (run 0x0200 [0x28] (fun s => put [(0x01FF,
      0xFF)] { s with sp := 0xFE, flagC := false, flagZ := false, flagI := false, flagD := false, flagB := false, flagV := false, flagN := false })).map
        (fun t => (t.sp, t.flagC, t.flagZ, t.flagI)) =
      some (0xFF, true, true, true) := by decide +kernel

/-- `AND #$0F` (R135): AND to zero. -/
theorem test_andImm :
    (run 0x0200 [0x29, 0x0F] (fun s => { s with a := 0xF0, flagZ := false, flagN := true })).map
        (fun t => (t.a, t.flagZ, t.flagN)) =
      some (0x00, true, false) := by decide +kernel

/-- `AND $10` (R135): AND zero page. -/
theorem test_andZp :
    (run 0x0200 [0x25, 0x10] (fun s => put [(0x0010, 0x3C)] { s with a := 0xFF })).map
        (fun t => (t.a, t.flagZ, t.flagN)) =
      some (0x3C, false, false) := by decide +kernel

/-- `AND $4000,Y` (R135): source line AND $4000,Y. -/
theorem test_andAby :
    (run 0x0200 [0x39, 0x00, 0x40] (fun s => put [(0x4010, 0x55)] { s with a := 0x0F, y := 0x10 })).map
        (fun t => (t.a, t.flagZ, t.flagN)) =
      some (0x05, false, false) := by decide +kernel

/-- `EOR #$FF` (R136): EOR to zero. -/
theorem test_eorImm :
    (run 0x0200 [0x49, 0xFF] (fun s => { s with a := 0xFF, flagZ := false, flagN := true })).map
        (fun t => (t.a, t.flagZ, t.flagN)) =
      some (0x00, true, false) := by decide +kernel

/-- `EOR ($40),Y` (R136): EOR IZY. -/
theorem test_eorIzy :
    (run 0x0200 [0x51, 0x40] (fun s => put [(0x0040, 0x00), (0x0041, 0x30), (0x3002,
      0x81)] { s with a := 0x01, y := 0x02 })).map
        (fun t => (t.a, t.flagZ, t.flagN)) =
      some (0x80, false, true) := by decide +kernel

/-- `ORA #$00` (R137): ORA zero. -/
theorem test_oraImm :
    (run 0x0200 [0x09, 0x00] (fun s => { s with a := 0x00, flagZ := false, flagN := true })).map
        (fun t => (t.flagZ, t.flagN)) =
      some (true, false) := by decide +kernel

/-- `ORA $1234` (R137): ORA absolute (the flattened row: 3 bytes). -/
theorem test_oraAbs :
    (run 0x0200 [0x0D, 0x34, 0x12] (fun s => put [(0x1234, 0x01)] { s with a := 0x10 })).map
        (fun t => (t.a, t.flagZ, t.flagN)) =
      some (0x11, false, false) := by decide +kernel

/-- `BIT $10` (R138): BIT: A AND M = 0 so Z=1; N,V from M; A unchanged. -/
theorem test_bitZp :
    (run 0x0200 [0x24, 0x10] (fun s => put [(0x0010,
      0xF0)] { s with a := 0x0F, flagZ := false, flagV := false, flagN := false })).map
        (fun t => (t.flagZ, t.flagV, t.flagN)) =
      some (true, true, true) := by decide +kernel

/-- `BIT $3000` (R138): BIT with A = 0: Z=1, N=1, V=1. -/
theorem test_bitAbs :
    (run 0x0200 [0x2C, 0x00, 0x30] (fun s => put [(0x3000,
      0xC0)] { s with a := 0x00, flagZ := false, flagV := false, flagN := false })).map
        (fun t => (t.flagZ, t.flagV, t.flagN)) =
      some (true, true, true) := by decide +kernel

/-- `ADC #$80` (R146): -128 + -128: result 0, Z=1, V=1, C=1. -/
theorem test_adcImm :
    (run 0x0200 [0x69,
      0x80] (fun s => { s with a := 0x80, flagC := false, flagZ := false, flagD := false, flagV := false, flagN := true })).map
        (fun t => (t.a, t.flagC, t.flagZ, t.flagV)) =
      some (0x00, true, true, true) := by decide +kernel

/-- `ADC #$01` (R146): carry in added. -/
theorem test_adcImm_2 :
    (run 0x0200 [0x69, 0x01] (fun s => { s with a := 0x01, flagC := true, flagD := false })).map
        (fun t => (t.a, t.flagC, t.flagZ, t.flagV)) =
      some (0x03, false, false, false) := by decide +kernel

/-- `ADC $10` (R146): ADC zero page. -/
theorem test_adcZp :
    (run 0x0200 [0x65, 0x10] (fun s => put [(0x0010,
      0x22)] { s with a := 0x10, flagC := false, flagZ := true, flagD := false })).map
        (fun t => (t.a, t.flagZ, t.flagV, t.flagN)) =
      some (0x32, false, false, false) := by decide +kernel

/-- `SBC #$B0` (R148): 0x50-0xB0 = 0xA0, C=0, V=1. -/
theorem test_sbcImm :
    (run 0x0200 [0xE9, 0xB0] (fun s => { s with a := 0x50, flagC := true, flagD := false, flagV := false })).map
        (fun t => (t.a, t.flagC, t.flagZ, t.flagV)) =
      some (0xA0, false, false, true) := by decide +kernel

/-- `SBC #$01` (R148): -128-1: V=1, C=1. -/
theorem test_sbcImm_2 :
    (run 0x0200 [0xE9,
      0x01] (fun s => { s with a := 0x80, flagC := true, flagD := false, flagV := false, flagN := true })).map
        (fun t => (t.a, t.flagZ, t.flagV, t.flagN)) =
      some (0x7F, false, true, false) := by decide +kernel

/-- `SBC ($40),Y` (R148): SBC IZY. -/
theorem test_sbcIzy :
    (run 0x0200 [0xF1, 0x40] (fun s => put [(0x0040, 0x00), (0x0041, 0x30), (0x3001,
      0x01)] { s with a := 0x10, y := 0x01, flagC := true, flagD := false })).map
        (fun t => (t.a, t.flagZ, t.flagV, t.flagN)) =
      some (0x0F, false, false, false) := by decide +kernel

/-- `CMP #$41` (R150): A < M. -/
theorem test_cmpImm :
    (run 0x0200 [0xC9, 0x41] (fun s => { s with a := 0x40, flagC := true, flagZ := true, flagN := false })).map
        (fun t => (t.flagC, t.flagZ, t.flagN)) =
      some (false, false, true) := by decide +kernel

/-- `CMP #$40` (R150): A = M. -/
theorem test_cmpImm_2 :
    (run 0x0200 [0xC9, 0x40] (fun s => { s with a := 0x40, flagC := false, flagZ := false, flagN := true })).map
        (fun t => (t.flagC, t.flagZ, t.flagN)) =
      some (true, true, false) := by decide +kernel

/-- `CMP $10,X` (R150): CMP ZPX. -/
theorem test_cmpZpx :
    (run 0x0200 [0xD5, 0x10] (fun s => put [(0x0011,
      0x10)] { s with a := 0x10, x := 0x01, flagC := false, flagZ := false, flagN := true })).map
        (fun t => (t.flagC, t.flagZ, t.flagN)) =
      some (true, true, false) := by decide +kernel

/-- `CPX #$10` (R151): CPX equal. -/
theorem test_cpxImm :
    (run 0x0200 [0xE0, 0x10] (fun s => { s with x := 0x10, flagC := false, flagZ := false, flagN := true })).map
        (fun t => (t.flagC, t.flagZ, t.flagN)) =
      some (true, true, false) := by decide +kernel

/-- `CPX $20` (R151): CPX less. -/
theorem test_cpxZp :
    (run 0x0200 [0xE4, 0x20] (fun s => put [(0x0020,
      0x01)] { s with x := 0x00, flagC := true, flagZ := true, flagN := false })).map
        (fun t => (t.flagC, t.flagZ, t.flagN)) =
      some (false, false, true) := by decide +kernel

/-- `CPX $3000` (R151): CPX greater, N from 0xFE. -/
theorem test_cpxAbs :
    (run 0x0200 [0xEC, 0x00, 0x30] (fun s => put [(0x3000,
      0x01)] { s with x := 0xFF, flagC := false, flagZ := true, flagN := false })).map
        (fun t => (t.flagC, t.flagZ, t.flagN)) =
      some (true, false, true) := by decide +kernel

/-- `CPY #$04` (R152): CPY equal. -/
theorem test_cpyImm :
    (run 0x0200 [0xC0, 0x04] (fun s => { s with y := 0x04, flagC := false, flagZ := false, flagN := true })).map
        (fun t => (t.flagC, t.flagZ, t.flagN)) =
      some (true, true, false) := by decide +kernel

/-- `CPY $20` (R152): CPY less. -/
theorem test_cpyZp :
    (run 0x0200 [0xC4, 0x20] (fun s => put [(0x0020,
      0x04)] { s with y := 0x03, flagC := true, flagZ := true, flagN := false })).map
        (fun t => (t.flagC, t.flagZ, t.flagN)) =
      some (false, false, true) := by decide +kernel

/-- `CPY $3000` (R152): CPY greater. -/
theorem test_cpyAbs :
    (run 0x0200 [0xCC, 0x00, 0x30] (fun s => put [(0x3000,
      0x7F)] { s with y := 0x80, flagC := false, flagZ := true, flagN := true })).map
        (fun t => (t.flagC, t.flagZ, t.flagN)) =
      some (true, false, false) := by decide +kernel

/-- `INC $10` (R160): INC wraps to 0; C untouched. -/
theorem test_incZp :
    (run 0x0200 [0xE6, 0x10] (fun s => put [(0x0010,
      0xFF)] { s with flagC := true, flagZ := false, flagN := true })).map
        (fun t => (t.read 0x0010, t.flagZ, t.flagN)) =
      some (0x00, true, false) := by decide +kernel

/-- `INC $FF,X` (R160): INC ZPX wraps. -/
theorem test_incZpx :
    (run 0x0200 [0xF6, 0xFF] (fun s => put [(0x0001, 0x00)] { s with x := 0x02, flagZ := true, flagN := true })).map
        (fun t => (t.read 0x0001, t.flagZ, t.flagN)) =
      some (0x01, false, false) := by decide +kernel

/-- `INC $3000` (R160): INC absolute. -/
theorem test_incAbs :
    (run 0x0200 [0xEE, 0x00, 0x30] (fun s => put [(0x3000, 0x41)] { s with flagZ := true, flagN := true })).map
        (fun t => (t.read 0x3000, t.flagZ, t.flagN)) =
      some (0x42, false, false) := by decide +kernel

/-- `INC $30FF,X` (R160): INC ABX, 7 cycles always. -/
theorem test_incAbx :
    (run 0x0200 [0xFE, 0xFF, 0x30] (fun s => put [(0x3100,
      0xFE)] { s with x := 0x01, flagZ := true, flagN := false })).map
        (fun t => (t.read 0x3100, t.flagZ, t.flagN)) =
      some (0xFF, false, true) := by decide +kernel

/-- `DEC $10` (R163): DEC wraps to 0xFF. -/
theorem test_decZp :
    (run 0x0200 [0xC6, 0x10] (fun s => put [(0x0010, 0x00)] { s with flagZ := true, flagN := false })).map
        (fun t => (t.read 0x0010, t.flagZ, t.flagN)) =
      some (0xFF, false, true) := by decide +kernel

/-- `DEC $10,X` (R163): DEC ZPX 0x80 -> 0x7F. -/
theorem test_decZpx :
    (run 0x0200 [0xD6, 0x10] (fun s => put [(0x0011, 0x80)] { s with x := 0x01, flagZ := true, flagN := true })).map
        (fun t => (t.read 0x0011, t.flagZ, t.flagN)) =
      some (0x7F, false, false) := by decide +kernel

/-- `DEC $3000` (R163): DEC absolute. -/
theorem test_decAbs :
    (run 0x0200 [0xCE, 0x00, 0x30] (fun s => put [(0x3000, 0x10)] { s with flagZ := true, flagN := true })).map
        (fun t => (t.read 0x3000, t.flagZ, t.flagN)) =
      some (0x0F, false, false) := by decide +kernel

/-- `DEC $3000,X` (R163): DEC ABX. -/
theorem test_decAbx :
    (run 0x0200 [0xDE, 0x00, 0x30] (fun s => put [(0x30FF,
      0x81)] { s with x := 0xFF, flagZ := true, flagN := false })).map
        (fun t => (t.read 0x30FF, t.flagZ, t.flagN)) =
      some (0x80, false, true) := by decide +kernel

/-- `INX` (R161): INX wraps. -/
theorem test_inx :
    (run 0x0200 [0xE8] (fun s => { s with x := 0xFF, flagZ := false, flagN := true })).map
        (fun t => (t.x, t.flagZ, t.flagN)) =
      some (0x00, true, false) := by decide +kernel

/-- `INY` (R162): INY wraps. -/
theorem test_iny :
    (run 0x0200 [0xC8] (fun s => { s with y := 0xFF, flagZ := false, flagN := true })).map
        (fun t => (t.y, t.flagZ, t.flagN)) =
      some (0x00, true, false) := by decide +kernel

/-- `DEX` (R164): DEX wraps. -/
theorem test_dex :
    (run 0x0200 [0xCA] (fun s => { s with x := 0x00, flagZ := true, flagN := false })).map
        (fun t => (t.x, t.flagZ, t.flagN)) =
      some (0xFF, false, true) := by decide +kernel

/-- `DEY` (R165): DEY wraps. -/
theorem test_dey :
    (run 0x0200 [0x88] (fun s => { s with y := 0x00, flagZ := true, flagN := false })).map
        (fun t => (t.y, t.flagZ, t.flagN)) =
      some (0xFF, false, true) := by decide +kernel

/-- `ASL A` (R170): ASL A: source S8, carry out, result 0x02. -/
theorem test_aslAcc :
    (run 0x0200 [0x0A] (fun s => { s with a := 0x81, flagC := false, flagZ := true, flagN := true })).map
        (fun t => (t.a, t.flagC, t.flagZ, t.flagN)) =
      some (0x02, true, false, false) := by decide +kernel

/-- `ASL $20` (R170): ASL memory with A = 0: Z follows the result (Z=0), conflict C1. -/
theorem test_aslZp :
    (run 0x0200 [0x06, 0x20] (fun s => put [(0x0020,
      0x21)] { s with a := 0x00, flagC := false, flagZ := true, flagN := false })).map
        (fun t => (t.read 0x0020, t.flagZ)) =
      some (0x42, false) := by decide +kernel

/-- `ASL $3000,X` (R170): ASL ABX. -/
theorem test_aslAbx :
    (run 0x0200 [0x1E, 0x00, 0x30] (fun s => put [(0x3005,
      0xC0)] { s with x := 0x05, flagC := false, flagZ := true, flagN := false })).map
        (fun t => (t.read 0x3005, t.flagC, t.flagZ, t.flagN)) =
      some (0x80, true, false, true) := by decide +kernel

/-- `LSR A` (R171): LSR A to zero; N always 0. -/
theorem test_lsrAcc :
    (run 0x0200 [0x4A] (fun s => { s with a := 0x01, flagC := false, flagZ := false, flagN := true })).map
        (fun t => (t.a, t.flagC, t.flagZ, t.flagN)) =
      some (0x00, true, true, false) := by decide +kernel

/-- `LSR $20` (R171): LSR memory. -/
theorem test_lsrZp :
    (run 0x0200 [0x46, 0x20] (fun s => put [(0x0020,
      0x03)] { s with a := 0x00, flagC := false, flagZ := true, flagN := true })).map
        (fun t => (t.read 0x0020, t.flagC, t.flagZ, t.flagN)) =
      some (0x01, true, false, false) := by decide +kernel

/-- `LSR $2FFF,X` (R171): LSR ABX. -/
theorem test_lsrAbx :
    (run 0x0200 [0x5E, 0xFF, 0x2F] (fun s => put [(0x3000,
      0x01)] { s with x := 0x01, flagC := false, flagZ := false, flagN := false })).map
        (fun t => (t.read 0x3000, t.flagC, t.flagZ)) =
      some (0x00, true, true) := by decide +kernel

/-- `ROL A` (R172): ROL A: C in to bit 0, bit 7 out. -/
theorem test_rolAcc :
    (run 0x0200 [0x2A] (fun s => { s with a := 0x80, flagC := true, flagZ := true, flagN := true })).map
        (fun t => (t.a, t.flagZ, t.flagN)) =
      some (0x01, false, false) := by decide +kernel

/-- `ROL $20` (R172): ROL memory 0 with C=1: result 1, Z=0 although A = 0. -/
theorem test_rolZp :
    (run 0x0200 [0x26, 0x20] (fun s => put [(0x0020,
      0x00)] { s with a := 0x00, flagC := true, flagZ := true, flagN := true })).map
        (fun t => (t.read 0x0020, t.flagC, t.flagZ, t.flagN)) =
      some (0x01, false, false, false) := by decide +kernel

/-- `ROL $3000,X` (R172): ROL ABX. -/
theorem test_rolAbx :
    (run 0x0200 [0x3E, 0x00, 0x30] (fun s => put [(0x3000,
      0xFF)] { s with x := 0x00, flagC := true, flagZ := true, flagN := false })).map
        (fun t => (t.read 0x3000, t.flagZ, t.flagN)) =
      some (0xFF, false, true) := by decide +kernel

/-- `ROR A` (R173): ROR A: C in to bit 7, bit 0 out. -/
theorem test_rorAcc :
    (run 0x0200 [0x6A] (fun s => { s with a := 0x01, flagC := true, flagZ := true, flagN := false })).map
        (fun t => (t.a, t.flagZ, t.flagN)) =
      some (0x80, false, true) := by decide +kernel

/-- `ROR $20` (R173): ROR memory 0 with C=1: 0x80, Z=0 although A = 0. -/
theorem test_rorZp :
    (run 0x0200 [0x66, 0x20] (fun s => put [(0x0020,
      0x00)] { s with a := 0x00, flagC := true, flagZ := true, flagN := false })).map
        (fun t => (t.read 0x0020, t.flagC, t.flagZ, t.flagN)) =
      some (0x80, false, false, true) := by decide +kernel

/-- `ROR $0300,X` (R173): source line ROR CRC,X. -/
theorem test_rorAbx :
    (run 0x0200 [0x7E, 0x00, 0x03] (fun s => put [(0x0310,
      0x55)] { s with x := 0x10, flagC := false, flagZ := true, flagN := true })).map
        (fun t => (t.read 0x0310, t.flagC, t.flagZ, t.flagN)) =
      some (0x2A, true, false, false) := by decide +kernel

/-- `JMP $1234` (R180): JMP absolute. -/
theorem test_jmpAbs :
    (run 0x0200 [0x4C, 0x34, 0x12] id).map
        (fun t => t.pc) =
      some 0x1234 := by decide +kernel

/-- `JMP ($30FF)` (R182): pointer at 0x30FF, default PAGE: high byte from 0x3000. -/
theorem test_jmpInd :
    (run 0x0200 [0x6C, 0xFF, 0x30] (fun s => put [(0x3000, 0x56), (0x30FF, 0x78), (0x3100, 0x9A)] s)).map
        (fun t => t.pc) =
      some 0x5678 := by decide +kernel

/-- `JSR $3000` (R183): JSR at S = 0x00: high byte to 0x0100, S wraps, low byte to 0x01FF. -/
theorem test_jsr :
    (run 0x0300 [0x20, 0x00, 0x30] (fun s => { s with sp := 0x00 })).map
        (fun t => (t.read 0x0100, t.read 0x01FF, t.pc, t.sp)) =
      some (0x03, 0x02, 0x3000, 0xFE) := by decide +kernel

/-- `JSR $3000` (R183): JSR at 0x0300: pushes 0x0302, high byte 0x03 first at 0x01FF, then low byte 0x02 at 0x01FE. -/
theorem test_jsr_2 :
    (run 0x0300 [0x20, 0x00, 0x30] (fun s => { s with sp := 0xFF })).map
        (fun t => (t.read 0x01FE, t.read 0x01FF, t.pc, t.sp)) =
      some (0x02, 0x03, 0x3000, 0xFD) := by decide +kernel

/-- `RTS` (R184): RTS: 0xFFFF+1 wraps to 0. -/
theorem test_rts :
    (run 0x3000 [0x60] (fun s => put [(0x01FE, 0xFF), (0x01FF, 0xFF)] { s with sp := 0xFD })).map
        (fun t => (t.pc, t.sp)) =
      some (0x0000, 0xFF) := by decide +kernel

/-- `RTS` (R184): RTS with S = 0xFF wraps: low from 0x0100, high from 0x0101. -/
theorem test_rts_2 :
    (run 0x3000 [0x60] (fun s => put [(0x0100, 0x33), (0x0101, 0x12)] { s with sp := 0xFF })).map
        (fun t => (t.pc, t.sp)) =
      some (0x1234, 0x01) := by decide +kernel

/-- `BCC $0207` (R191): BCC taken. -/
theorem test_bcc :
    (run 0x0200 [0x90, 0x05] (fun s => { s with flagC := false })).map
        (fun t => t.pc) =
      some 0x0207 := by decide +kernel

/-- `BCC $0207` (R191): BCC not taken. -/
theorem test_bcc_2 :
    (run 0x0200 [0x90, 0x05] (fun s => { s with flagC := true })).map
        (fun t => t.pc) =
      some 0x0202 := by decide +kernel

/-- `BCS $020E` (R192): BCS taken, backward 4. -/
theorem test_bcs :
    (run 0x0210 [0xB0, 0xFC] (fun s => { s with flagC := true })).map
        (fun t => t.pc) =
      some 0x020E := by decide +kernel

/-- `BCS $020E` (R192): BCS not taken. -/
theorem test_bcs_2 :
    (run 0x0210 [0xB0, 0xFC] (fun s => { s with flagC := false })).map
        (fun t => t.pc) =
      some 0x0212 := by decide +kernel

/-- `BEQ $0210` (R193): BEQ taken; source line BEQ LABEL. -/
theorem test_beq :
    (run 0x0200 [0xF0, 0x0E] (fun s => { s with flagZ := true })).map
        (fun t => t.pc) =
      some 0x0210 := by decide +kernel

/-- `BEQ $0210` (R193): BEQ not taken. -/
theorem test_beq_2 :
    (run 0x0200 [0xF0, 0x0E] (fun s => { s with flagZ := false })).map
        (fun t => t.pc) =
      some 0x0202 := by decide +kernel

/-- `BNE $0204` (R195): BNE *+4 taken. -/
theorem test_bne :
    (run 0x0200 [0xD0, 0x02] (fun s => { s with flagZ := false })).map
        (fun t => t.pc) =
      some 0x0204 := by decide +kernel

/-- `BNE $0204` (R195): BNE not taken. -/
theorem test_bne_2 :
    (run 0x0200 [0xD0, 0x02] (fun s => { s with flagZ := true })).map
        (fun t => t.pc) =
      some 0x0202 := by decide +kernel

/-- `BMI $0481` (R194): BMI farthest forward: a+129. -/
theorem test_bmi :
    (run 0x0400 [0x30, 0x7F] (fun s => { s with flagN := true })).map
        (fun t => t.pc) =
      some 0x0481 := by decide +kernel

/-- `BMI $0481` (R194): BMI not taken. -/
theorem test_bmi_2 :
    (run 0x0400 [0x30, 0x7F] (fun s => { s with flagN := false })).map
        (fun t => t.pc) =
      some 0x0402 := by decide +kernel

/-- `BPL $0382` (R196): BPL farthest backward: a-126. -/
theorem test_bpl :
    (run 0x0400 [0x10, 0x80] (fun s => { s with flagN := false })).map
        (fun t => t.pc) =
      some 0x0382 := by decide +kernel

/-- `BPL $0382` (R196): BPL not taken. -/
theorem test_bpl_2 :
    (run 0x0400 [0x10, 0x80] (fun s => { s with flagN := true })).map
        (fun t => t.pc) =
      some 0x0402 := by decide +kernel

/-- `BVC $0502` (R197): BVC offset 0: next instruction either way. -/
theorem test_bvc :
    (run 0x0500 [0x50, 0x00] (fun s => { s with flagV := false })).map
        (fun t => t.pc) =
      some 0x0502 := by decide +kernel

/-- `BVC $0512` (R197): BVC not taken. -/
theorem test_bvc_2 :
    (run 0x0500 [0x50, 0x10] (fun s => { s with flagV := true })).map
        (fun t => t.pc) =
      some 0x0502 := by decide +kernel

/-- `BVS $0600` (R198): BVS to itself. -/
theorem test_bvs :
    (run 0x0600 [0x70, 0xFE] (fun s => { s with flagV := true })).map
        (fun t => t.pc) =
      some 0x0600 := by decide +kernel

/-- `BVS $0600` (R198): BVS not taken. -/
theorem test_bvs_2 :
    (run 0x0600 [0x70, 0xFE] (fun s => { s with flagV := false })).map
        (fun t => t.pc) =
      some 0x0602 := by decide +kernel

/-- `CLC` (R205): CLC. -/
theorem test_clc :
    (run 0x0200 [0x18] (fun s => { s with flagC := true })).map
        (fun t => t.flagC) =
      some false := by decide +kernel

/-- `SEC` (R209): SEC. -/
theorem test_sec :
    (run 0x0200 [0x38] (fun s => { s with flagC := false })).map
        (fun t => t.flagC) =
      some true := by decide +kernel

/-- `CLD` (R206): CLD. -/
theorem test_cld :
    (run 0x0200 [0xD8] (fun s => { s with flagD := true })).map
        (fun t => t.flagD) =
      some false := by decide +kernel

/-- `SED` (R210): SED. -/
theorem test_sed :
    (run 0x0200 [0xF8] (fun s => { s with flagD := false })).map
        (fun t => t.flagD) =
      some true := by decide +kernel

/-- `CLI` (R207): CLI. -/
theorem test_cli :
    (run 0x0200 [0x58] (fun s => { s with flagI := true })).map
        (fun t => t.flagI) =
      some false := by decide +kernel

/-- `SEI` (R211): SEI. -/
theorem test_sei :
    (run 0x0200 [0x78] (fun s => { s with flagI := false })).map
        (fun t => t.flagI) =
      some true := by decide +kernel

/-- `CLV` (R208): CLV. -/
theorem test_clv :
    (run 0x0200 [0xB8] (fun s => { s with flagV := true })).map
        (fun t => t.flagV) =
      some false := by decide +kernel

/-- `NOP` (R216): NOP at the last byte: PC wraps. -/
theorem test_nop :
    (run 0xFFFF [0xEA] id).map
        (fun t => t.pc) =
      some 0x0000 := by decide +kernel

/-- `BRK` (R215): BRK with S = 0x01: stack wraps; I = 1 does not mask BRK; D unchanged. -/
theorem test_brk :
    (run 0x0300 [0x00] (fun s => put [(0xFFFE, 0x34), (0xFFFF,
      0x12)] { s with sp := 0x01, flagC := false, flagZ := false, flagI := true, flagD := true, flagB := true, flagV := true, flagN := true })).map
        (fun t => (t.read 0x0100, t.read 0x0101, t.pc, t.sp)) =
      some (0x02, 0x03, 0x1234, 0xFE) := by decide +kernel

/-- `BRK` (R215): BRK default parameters. -/
theorem test_brk_2 :
    (run 0x0300 [0x00] (fun s => put [(0xFFFE, 0x00), (0xFFFF,
      0x80)] { s with sp := 0xFF, flagC := true, flagZ := true, flagI := false, flagD := false, flagB := false, flagV := false, flagN := false })).map
        (fun t => (t.read 0x01FD, t.read 0x01FE, t.pc, t.sp)) =
      some (0x23, 0x02, 0x8000, 0xFC) := by decide +kernel

/-- `RTI` (R217): RTI across the S wrap. -/
theorem test_rti :
    (run 0x8000 [0x40] (fun s => put [(0x0100, 0x34), (0x0101, 0x12), (0x01FF,
      0x00)] { s with sp := 0xFE, flagC := true, flagZ := true, flagI := true, flagD := true, flagB := true, flagV := true, flagN := true })).map
        (fun t => (t.pc, t.sp, t.flagC, t.flagZ)) =
      some (0x1234, 0x01, false, false) := by decide +kernel

/-- `RTI` (R217): RTI: flags from 0x23, no +1 on the address. -/
theorem test_rti_2 :
    (run 0x8000 [0x40] (fun s => put [(0x01FD, 0x23), (0x01FE, 0x02), (0x01FF,
      0x03)] { s with sp := 0xFC, flagC := false, flagZ := false, flagI := true, flagD := true, flagB := true, flagV := true, flagN := true })).map
        (fun t => (t.pc, t.sp, t.flagC, t.flagZ)) =
      some (0x0302, 0xFF, true, true) := by decide +kernel

/-- Every flag at the mirror image of its default bit. -/
def mirrored : Params := { specParams with pLayout := { n := 0, v := 1, b := 3, d := 4, i := 5, z := 6, c := 7 } }

/-- A platform with devices at 0xD000 to 0xD0FF and ROM from 0x8000 on otherwise. -/
def platform : Params := { specParams with memMap := [⟨0xD000, 0xD0FF, .device⟩, ⟨0x8000, 0xFFFF, .rom⟩] }

/-- `BRK` with B = 1 (R215): NMOS parameters push bit 4 as 1 and set I (95, section 2.10). -/
theorem test_brk_nmos :
    (run 0x0300 [0x00] (fun s => put [(0xFFFF, 0x80)]
      { s with params := nmosParams, sp := 0xFF, flagC := true, flagZ := true, flagI := false })).map
        (fun t => (t.read 0x01FD, t.pc, t.flagI, t.flagB)) = some (0x33, 0x8000, true, true) := by decide +kernel

/-- `JMP ($30FF)` with JMP_IND_WRAP = CARRY: high byte from 0x3100 (95, section 2.7). -/
theorem test_jmpInd_carry :
    (run 0x0200 [0x6C, 0xFF, 0x30] (fun s => put [(0x3000, 0x56), (0x30FF, 0x78), (0x3100, 0x9A)]
      { s with params := { specParams with jmpIndWrap := .carry } })).map (fun t => t.pc) = some 0x9A78 := by
  decide +kernel

/-- The last step of the entry sequence of R281, TXS at 0x8004, leads to 0x8005 (95, section 3.3, step 4; log 28). -/
theorem test_entry_sequence_end :
    (run 0x8004 [0x9A] (fun s => { s with x := 0xFF, sp := 0xEE })).map (fun t => (t.sp, t.pc)) = some (0xFF,
      0x8005) := by
  decide +kernel

/-- Two NMI edges before a boundary make one entry: the latch is clear after it (R240; log 27). -/
theorem test_nmi_edges_merge :
    (after (step (((start 0x0200 [0xEA]).driveLines false true false).driveLines false false false |>.driveLines
      false true false))).map (fun t => (t.sp, t.nmiPending)) = some (0xFD, false) := by decide +kernel

/-- ADC and SBC with D = 1 under DECIMAL_MODE = REFUSE (95, section 2.4), and bytes that are no instruction (2.10). -/
theorem test_refusals :
    refusal (step { start 0x0200 [0x69, 0x01] with flagD := true }) = some .decimalModeNotSpecified ∧
      refusal (step { start 0x0200 [0xE9, 0x01] with flagD := true }) = some .decimalModeNotSpecified ∧
      refusal (step (start 0x0200 [0x02])) = some (.unlistedOpcode 0x02) ∧
      refusal (step (start 0x0200 [0xFF])) = some (.unlistedOpcode 0xFF) ∧
      refusal (step { start 0x0200 [0x02] with params := nmosParams }) = some (.undocumentedOperation 0x02) := by
  decide +kernel

/-- PHP under a P_LAYOUT with every flag at the mirrored bit and P_BIT5 at bit 2 (R26, R3). -/
theorem test_php_layout :
    (run 0x0200 [0x08] (fun s =>
      { s with sp := 0xFF, flagN := true, flagD := true, flagC := true, flagI := false, params := mirrored })).map
        (fun t => (t.read 0x01FF, t.sp)) = some (0x95, 0xFE) := by decide +kernel

/-- A store to ROM changes nothing, one to the RAM before it does (R44, log 15). -/
theorem test_rom :
    (run 0x0200 [0x8D, 0x00, 0x80] (fun s => { s with a := 0x55, params := platform })).map
        (fun t => (t.read 0x8000, t.bus, t.pc)) = some (0x00, [], 0x0203) ∧
      (run 0x0200 [0x8D, 0xFF, 0x7F] (fun s => { s with a := 0x55, params := platform })).map
        (fun t => t.read 0x7FFF) = some 0x55 := by decide +kernel

/-- Device accesses, the latest first: a store is one write; INC is one read, then one write; JMP (Indirect) reads
the low
byte, then the high byte (R52, R54, R55). -/
theorem test_device_accesses :
    (run 0x0200 [0x8D, 0xFF, 0xD0] (fun s => { s with a := 0x55, params := platform })).map
        (fun t => (t.bus, t.mem.read 0xD0FF)) = some ([.write 0xD0FF 0x55], 0x00) ∧
      (run 0x0200 [0xEE, 0x00, 0xD0] (fun s => { s with params := platform })).map
        (fun t => t.bus.map BusAccess.addr) = some [0xD000, 0xD000] ∧
      (run 0x0200 [0x6C, 0xFF, 0xD0] (fun s => { s with params := platform })).map (fun t => t.bus) =
        some [.read 0xD000, .read 0xD0FF] := by decide +kernel

/-- The end of a run (R295): at the self-jump, at a taken branch to itself, at a designated PC, at BRK; never without
a
HALT_CONDITION. -/
theorem test_halt :
    (match runUntilHalt 5 (start 0x0600 [0xE8, 0x4C, 0x01, 0x06]) with
      | .ended t => t.x == 0x01 && t.pc == 0x0601
      | .unfinished _ => false
      | .refused _ => false) = true ∧
      { start 0x0600 [0x90, 0xFE] with params := { specParams with haltConditions := [.selfBranch] } }.halted = true ∧
      { start 0x0600 [0xB0, 0xFE] with params := { specParams with haltConditions := [.selfBranch] } }.halted = false ∧
      { start 0x0600 [0xEA] with params := { specParams with haltConditions := [.pcAt 0x0600] } }.halted = true ∧
      { start 0x0600 [0x00] with params := { specParams with haltConditions := [.brk] } }.halted = true ∧
      { start 0x0600 [0x4C, 0x00, 0x06] with params := nmosParams }.halted = false ∧
      runUntilHalt 5 (start 0x0600 [0x02]) = .refused (.unlistedOpcode 0x02) := by decide +kernel

/-- Interrupt entry (95, section 2.11). -/
theorem test_irq_entry :
    (run 0x0234 [0xEA] (fun s => put [(0xFFFE, 0x00), (0xFFFF, 0x90)]
      { s with sp := 0xFF, flagN := true, flagD := true, flagI := false, flagC := true, irqLine := true })).map
        (fun t => (t.read 0x01FD, t.read 0x01FE, t.read 0x01FF, t.sp, t.flagI, t.pc)) =
      some (0xA9, 0x34, 0x02, 0xFC, true, 0x9000) := by decide +kernel

/-- With I = 1 at the boundary nothing happens and the next instruction executes (95, section 2.11). -/
theorem test_irq_masked :
    (run 0x0234 [0xE8] (fun s => { s with flagI := true, irqLine := true })).map (fun t => (t.pc, t.x)) =
      some (0x0235, 0x01) := by decide +kernel

/-- The cycle table (R291 to R293): a page crossing costs LDA one cycle and STA none; a taken branch one or two. -/
theorem test_cycles :
    instrCycles (.ldaAbx 0x12FF) { State.reset with x := 0x01 } = 5 ∧
      instrCycles (.ldaAbx 0x12FE) { State.reset with x := 0x01 } = 4 ∧
      instrCycles (.staAbx 0x12FF) { State.reset with x := 0x01 } = 5 ∧
      instrCycles (.bcc 0x7D) { State.reset with pc := 0x02F0 } = 4 ∧
        instrCycles (.bcc 0x05) { State.reset with pc := 0x0200 } = 3 ∧
      instrCycles (.bcs 0x05) State.reset = 2 := by decide +kernel

/-- `withFetchWord` places the instruction that the very next step runs. -/
theorem test_withFetchWord :
    (after (step (State.reset.withFetchWord 16 0x0AA9))).map (fun t => (t.a, t.pc)) = some (0x0A, 0x0002) ∧
      (after (step ({ State.reset with pc := 0xD000, params := platform }.withFetchWord 16 0x0AA9))).map
        (fun t => (t.a, t.pc)) = some (0x0A, 0xD002) ∧
      (after (step (State.reset.withFetchWord 24 0x12344C))).map (fun t => t.pc) = some 0x1234 := by decide +kernel

/-! ### The assembler (95, section 1.2; R98 to R100) -/

/-- Example lines of the source: a zero page address selects the zero page form where the mnemonic has one. -/
theorem test_assemble_modes :
    assemble 0 .lda (.address 0x00) = some [0xA5, 0x00] ∧ assemble 0 .jmp (.address 0x10) = some [0x4C, 0x10, 0x00] ∧
      assemble 0 .lda (.addressY 0x10) = some [0xB9, 0x10, 0x00] ∧ assemble 0 .stx (.addressY 0x30) = some [0x96,
        0x30] ∧
      assemble 0 .ror .accumulator = some [0x6A] ∧ assemble 0 .jmp (.indirect 0xFFFC) = some [0x6C, 0xFC, 0xFF] ∧
      assemble 0 .sta (.indirectY 0x60) = some [0x91, 0x60] ∧
        assemble 0 .sta (.immediate 0x10) = none := by decide +kernel

/-- `BNE *+4` is `D0 02`; the farthest targets are 126 bytes back and 129 bytes on (R99). -/
theorem test_assemble_branches :
    assemble 0x0300 .bne (.address 0x0304) = some [0xD0, 0x02] ∧ assemble 0x0400 .bmi (.address 0x0481) = some [0x30,
      0x7F] ∧
      assemble 0x0400 .bpl (.address 0x0382) = some [0x10, 0x80] ∧ assemble 0x0400 .bmi (.address 0x0482) = none ∧
      assemble 0x0400 .bpl (.address 0x0381) = none := by decide +kernel

/-- `#LO LABEL` and `#HI LABEL` with LABEL = 0x1234 (R100). -/
theorem test_lo_hi : Operand.lo 0x1234 = 0x34 ∧ Operand.hi 0x1234 = 0x12 := by decide

/-! ### Witnesses: concrete states and operands that meet the hypotheses of each statement that has any -/

/-- D = 1 under the spec's default parameters: DECIMAL_MODE is REFUSE. -/
def decimalRefusing : State := { State.reset with params := specParams, flagD := true }

/-- An IRQ that is not masked, with S at its wrap. -/
def irqWaiting : State := { put [(0xFFFF, 0x90)] State.reset with irqLine := true, flagI := false, sp := 0x01, pc := 0x0234 }

/-- An NMI edge latched while I = 1, with an IRQ asserted as well. -/
def nmiWaiting : State := { put [(0xFFFB, 0xA0)] State.reset with irqLine := true, nmiLine := true, nmiPending := true }

/-- Reset asserted, with an NMI and an IRQ waiting as well. -/
def resetWaiting : State := { nmiWaiting with resetLine := true, flagI := false }

theorem witness_AdcAddsWithCarry :
    (State.reset.flagD = false ∨ State.reset.params.decimalMode = .binary) ∧
      (let s := { State.reset with flagD := true, params := { specParams with decimalMode := .binary } }
       s.flagD = true ∧ (s.flagD = false ∨ s.params.decimalMode = .binary)) := by decide

theorem witness_SbcSubtractsWithBorrow :
    (State.reset.flagD = false ∨ State.reset.params.decimalMode = .binary) ∧
      (let s := { State.reset with flagD := true, params := { specParams with decimalMode := .binary } }
       s.flagD = true ∧ (s.flagD = false ∨ s.params.decimalMode = .binary)) := by decide

theorem witness_DecimalModeRefusesUnderRefuse :
    decimalRefusing.flagD = true ∧ decimalRefusing.params.decimalMode = .refuse ∧ UsesDecimalMode (.adcImm 0x01) ∧
      UsesDecimalMode (.sbcIzy 0xFF) ∧ ¬ UsesDecimalMode .nop ∧ ¬ UsesDecimalMode (.cmpImm 0x80) := by
  simp [decimalRefusing, specParams, UsesDecimalMode, Instr.mnemonic]

theorem witness_DecimalModeRunsOnFreeValues :
    let s := { State.reset with flagD := true }
    UsesDecimalMode (.adcAbs 0x1234) ∧ UsesDecimalMode (.sbcImm 0x01) ∧ s.flagD = true ∧
      s.params.decimalMode = .bcd := by
  simp [UsesDecimalMode, Instr.mnemonic, State.reset, resetParams]

theorem witness_JmpSetsProgramCounter :
    loByte 0x30FE ≠ 0xFF ∧ State.reset.params.jmpIndWrap = .page ∧
      ({ specParams with jmpIndWrap := .carry } : Params).jmpIndWrap ≠ .page := by decide

theorem witness_PullReversesPush :
    State.reset.kindAt (stackAddr State.reset.sp) = .ram ∧
      ({ State.reset with params := platform, sp := 0xFF } : State).kindAt (stackAddr 0xFF) = .ram := by decide +kernel

theorem witness_StatusByteLayoutAndRoundTrip :
    State.reset.params.pLayout = PLayout.standard ∧ State.reset.params.pLayout.distinct = true ∧
      State.reset.params.pBit5 = true ∧ mirrored.pLayout.distinct = true ∧ mirrored.pLayout ≠ PLayout.standard ∧
      (2 : Fin 8) ∉ mirrored.pLayout.positions ∧ (7 : Fin 8) ∈ mirrored.pLayout.positions := by decide

theorem witness_RtsReturnsAfterTheCall :
    ∃ s t u : State, s.kindAt (stackAddr s.sp) = .ram ∧ s.kindAt (stackAddr (s.sp - 1)) = .ram ∧
      exec (.jsr 0x3000) s = .next t ∧ u.params = t.params ∧ u.sp = t.sp ∧ u ≠ t ∧ s.sp = 0x00 ∧ s.pc = 0xFFFD ∧
      u.mem.read (stackAddr s.sp) = t.mem.read (stackAddr s.sp) ∧
      u.mem.read (stackAddr (s.sp - 1)) = t.mem.read (stackAddr (s.sp - 1)) := by
  obtain ⟨t, ht⟩ : ∃ t, exec (.jsr 0x3000) { State.reset with pc := 0xFFFD } = .next t := ⟨_, rfl⟩
  refine ⟨_, t, { t with x := t.x + 1 }, rfl, rfl, ht, rfl, rfl, ?_, rfl, rfl, rfl, rfl⟩
  intro h
  have : t.x + 1 = t.x := congrArg State.x h
  bv_omega

theorem witness_RtiReturnsAfterBrk :
    ∃ s t u : State, s.params.pLayout.distinct = true ∧ StackIsRam s ∧ exec .brk s = .next t ∧ SameSavedBytes t u ∧
      u ≠ t ∧ s.sp = 0x01 := by
  obtain ⟨t, ht⟩ : ∃ t, exec .brk { State.reset with sp := 0x01 } = .next t := ⟨_, rfl⟩
  refine ⟨_, t, { t with x := t.x + 1 }, by decide, ⟨rfl, rfl, rfl⟩, ht, ⟨rfl, rfl, rfl, rfl, rfl⟩, ?_, rfl⟩
  intro h
  have : t.x + 1 = t.x := congrArg State.x h
  bv_omega

theorem witness_InterruptEntryAndReturnRestoreTheProgram :
    ∃ t u : State, irqWaiting.params.pLayout.distinct = true ∧ StackIsRam irqWaiting ∧ irqWaiting.resetLine = false ∧
      irqWaiting.nmiPending = false ∧ irqWaiting.irqLine = true ∧
      irqWaiting.flagI = false ∧ step irqWaiting = .next t ∧ SameSavedBytes t u ∧ u ≠ t := by
  obtain ⟨t, ht⟩ := next_of_isSome (r := step irqWaiting) (by decide +kernel)
  refine ⟨t, { t with x := t.x + 1 }, by decide, ⟨rfl, rfl, rfl⟩, by decide, by decide, by decide, by decide, ht,
    ⟨rfl, rfl, rfl, rfl, rfl⟩, ?_⟩
  intro h
  have : t.x + 1 = t.x := congrArg State.x h
  bv_omega

theorem witness_IrqIsServedAtTheBoundary :
    (irqWaiting.resetLine = false ∧ irqWaiting.nmiPending = false ∧ irqWaiting.irqLine = true ∧
      irqWaiting.flagI = false) ∧
      (let s := { irqWaiting with flagI := true }
       s.resetLine = false ∧ s.nmiPending = false ∧ s.irqLine = true ∧ s.flagI = true) := by decide

theorem witness_NmiIsLatchedOnItsEdgeAndServedOnce :
    nmiWaiting.resetLine = false ∧ nmiWaiting.nmiPending = true ∧ nmiWaiting.flagI = true ∧
      (State.reset.driveLines false true false).nmiPending = true ∧
      ({ State.reset with nmiLine := true }.driveLines false true false).nmiPending = false := by decide

theorem witness_ResetIsServedFirst : resetWaiting.resetLine = true ∧ resetWaiting.nmiPending = true := by decide

theorem witness_BoundaryPriority :
    resetWaiting.resetLine = true ∧ (nmiWaiting.resetLine = false ∧ nmiWaiting.nmiPending = true) ∧
      (irqWaiting.resetLine = false ∧ irqWaiting.nmiPending = false ∧ irqWaiting.irqLine = true ∧
        irqWaiting.flagI = false) ∧
      (State.reset.resetLine = false ∧ State.reset.nmiPending = false ∧ (State.reset.irqLine = false ∨
        State.reset.flagI = true)) ∧
      (let s := { irqWaiting with flagI := true }
       s.resetLine = false ∧ s.nmiPending = false ∧ (s.irqLine = false ∨ s.flagI = true)) ∧
      irqWaiting.boundaryEvent.isSome = true := by decide +kernel

theorem witness_CanonicalMemoriesAreDeterminedByReads :
    let m : Memory := [(0, 0x01), (65535, 0xFF)]
    m.wf = true ∧ (Memory.blank.write 0xFFFF 0xFF).write 0x0000 0x01 = m ∧ ∀ a : Word, m.read a = m.read a :=
  ⟨by decide, by decide, fun _ => rfl⟩

theorem witness_StepRunsTheDecodedInstruction :
    (let s := start 0xFFFF [0xAD, 0x34, 0x12]
     NoBoundaryEvent s ∧ CodeIsMemory s ∧
       decode [s.mem.read s.pc, s.mem.read (s.pc + 1), s.mem.read (s.pc + 2)] = .ok (.ldaAbs 0x1234, []) ∧
       WellFormed (.ldaAbs 0x1234) ∧ (after (exec (.ldaAbs 0x1234) s)).isSome = true) ∧
    (let s := { start 0x0200 [0x69, 0x01] with flagD := true }
     NoBoundaryEvent s ∧ CodeIsMemory s ∧
       decode [s.mem.read s.pc, s.mem.read (s.pc + 1), s.mem.read (s.pc + 2)] = .ok (.adcImm 0x01, [0x00]) ∧
       WellFormed (.adcImm 0x01) ∧ refusal (exec (.adcImm 0x01) s) = some .decimalModeNotSpecified) ∧
    (let s := { start 0x0200 [0x69, 0x01] with flagD := true }
     loadBytes (Instr.adcImm 0x01).length s.pc s = (encode (.adcImm 0x01), s)) ∧
    (let s := start 0x0200 [0xFF]
     NoBoundaryEvent s ∧ (lookupOpcode (s.read s.pc)).isNone = true ∧ s.params.illegalOpcode = .refuse) := by
  unfold NoBoundaryEvent CodeIsMemory
  decide +kernel

/-- The second clause with a device behind the instruction's operand byte, whatever the device answers: the operand of
LDA # is what it answers, and the access is recorded. -/
theorem witness_StepRunsTheDecodedInstruction_device :
    let s : State := { start 0x0200 [0xA9] with params := { specParams with memMap := [⟨0x0201, 0x0201, .device⟩] } }
    ∃ u, loadBytes 2 s.pc s = (encode (.ldaImm (Config.deviceRead 0x0201 [])), u) ∧ u.bus = [.read 0x0201] ∧
      NoBoundaryEvent s ∧ ∃ t, exec (.ldaImm (Config.deviceRead 0x0201 [])) u = .next t :=
  ⟨_, rfl, rfl, by unfold NoBoundaryEvent; decide +kernel, _, rfl⟩

theorem witness_UnlistedOpcodesAreRefused :
    let s := start 0x0200 [0xFF]
    NoBoundaryEvent s ∧ s.params.illegalOpcode = .refuse ∧ s.read s.pc = 0xFF ∧
      (lookupOpcode 0xFF).isNone = true := by
  unfold NoBoundaryEvent
  decide +kernel

theorem witness_DecodeOfEncodeIsTheInstruction :
    WellFormed (.ldaImm 0xFF) ∧ WellFormed (.jmpInd 0xFFFF) ∧ WellFormed .brk := by decide +kernel

theorem witness_EncodeOfDecodeIsTheBytes : decode [0xBD, 0xFF, 0x12, 0xEA] = .ok (.ldaAbx 0x12FF, [0xEA]) := by
  decide +kernel

theorem witness_EveryStepKeepsCanonicalMemory :
    CanonicalMemory irqWaiting ∧ (∃ t, step irqWaiting = .next t) ∧ CanonicalMemory (start 0x0200 [0x48]) ∧ (∃ t,
      step (start 0x0200 [0x48]) = .next t) := by
  refine ⟨?_, next_of_isSome (by decide +kernel), ?_,
    next_of_isSome (by decide +kernel)⟩ <;> unfold CanonicalMemory <;> decide +kernel

theorem witness_StepLeavesParametersAndLinesAlone :
    (∃ t, step irqWaiting = .next t) ∧ irqWaiting.nmiPending = false := ⟨next_of_isSome (by decide +kernel),
      by decide⟩

theorem witness_FlagEffectsTable :
    (∃ t, exec .nop State.reset = .next t) ∧ (∃ t, exec .brk State.reset = .next t) ∧ (∃ t,
      exec .plp State.reset = .next t) ∧
      (∃ t, exec .rti State.reset = .next t) ∧ Instr.nop.mnemonic = .nop ∧ Instr.brk.mnemonic = .brk ∧
      Instr.plp.mnemonic = .plp ∧ Instr.rti.mnemonic = .rti :=
  ⟨⟨_, rfl⟩, ⟨_, rfl⟩, ⟨_, rfl⟩, ⟨_, rfl⟩, rfl, rfl, rfl, rfl⟩

theorem witness_RegisterWritersTable :
    (∃ t, exec .nop State.reset = .next t) ∧ (∃ t, exec .aslAcc State.reset = .next t) ∧ Instr.nop.mnemonic = .nop ∧
      Instr.nop.mode = .imp ∧ Instr.aslAcc.mode = .acc :=
  ⟨⟨_, rfl⟩, ⟨_, rfl⟩, rfl, rfl, rfl⟩

theorem witness_EveryInstructionCompletesUnlessDecimalIsRefused :
    DecimalRefused (.adcImm 0x01) decimalRefusing ∧ ¬ DecimalRefused (.adcImm 0x01) State.reset ∧
      ¬ DecimalRefused .nop decimalRefusing := by
  simp [DecimalRefused, UsesDecimalMode, Instr.mnemonic, decimalRefusing, specParams, State.reset]

theorem witness_PageCrossingIsACarryOutOfTheLowByte :
    pageCrossed 0x12FF 0x01 = true ∧ pageCrossed 0x12FE 0x01 = false ∧ pageCrossed 0xFFFF 0xFF = true ∧
      pageCrossed 0x1200 0xFF = false := by decide

theorem witness_SelfJumpIsAFixedPoint :
    (let s := start 0x0600 [0x4C, 0x00, 0x06]
     NoBoundaryEvent s ∧ AtSelfJump s ∧ .selfJump ∈ s.params.haltConditions) ∧
    (let s := start 0xFFFE [0x4C, 0xFE, 0xFF]
     NoBoundaryEvent s ∧ AtSelfJump s ∧ .selfJump ∈ s.params.haltConditions) ∧
    (let s := { start 0x0600 [0x00] with params := { specParams with haltConditions := [.brk, .pcAt 0x0600] } }
     NoBoundaryEvent s ∧ s.kindAt s.pc ≠ .device ∧ s.mem.read s.pc = 0x00 ∧ .brk ∈ s.params.haltConditions ∧
       .pcAt s.pc ∈ s.params.haltConditions) ∧
    nmosParams.haltConditions = [] := by
  unfold NoBoundaryEvent AtSelfJump CodeIsMemory
  decide +kernel

theorem witness_StoredBytesAreFetchedNext :
    State.reset.kindAt (State.reset.pc + 3) = .ram ∧ lookupOpcode 0xEA = some (.f1 .nop) ∧
      lookupOpcode 0x00 = some (.f1 .brk) := ⟨rfl, rfl, rfl⟩

theorem witness_EveryStepRespectsTheMemoryMap :
    (let s : State := { State.reset with params := platform }
     s.kindAt 0xCFFF = .rom ∧ s.kindAt 0xD000 = .device ∧ s.kindAt 0xD0FF = .device ∧ s.kindAt 0xD100 = .rom ∧
       s.kindAt 0x8000 = .rom ∧ s.kindAt 0x7FFF = .ram ∧ s.kindAt 0xFFFF = .rom) ∧
    State.reset.params.memMap = [] ∧
    ∃ t, step { start 0x0200 [0xEE, 0x00, 0xD0] with params := platform } = .next t :=
  ⟨by decide +kernel, rfl, next_of_isSome (by decide +kernel)⟩

theorem witness_AssemblerStoresBranchOffsets :
    branchOffset 0x0400 0x0481 = some 0x7F ∧ branchOffset 0x0400 0x0382 = some 0x80 ∧
      branchOffset 0x0400 0x0482 = none ∧ branchOffset 0x0400 0x0381 = none ∧
        branchOffset 0xFFF0 0x0012 = some 0x20 := by
  decide

end Sys2Proof.Tests
end

section
/-! PROOFS. The stack and the status byte (`10_state.md` R16 to R18, R26, R27): O31 and O32. -/

namespace Sys2Proof.Machine

/-! ### Push and Pull (R17, R18) -/

/-- A push touches memory, the record of device accesses and S alone. -/
theorem State.push_eq (s : State) (v : Byte) :
    s.push v = { s with mem := (s.push v).mem, bus := (s.push v).bus, sp := s.sp - 1 } := rfl

/-- A push to RAM is no event. -/
theorem State.push_ram {s : State} (h : s.kindAt (stackAddr s.sp) = .ram) (v : Byte) :
    s.push v = { s with mem := (s.push v).mem, sp := s.sp - 1 } := by
  simp only [State.push, State.store_ram h]

/-- A pull is one load, and S counts up. -/
theorem State.pull_eq (s : State) :
    s.pull = (s.read (stackAddr (s.sp + 1)), { s.touch (stackAddr (s.sp + 1)) with sp := s.sp + 1 }) := rfl

/-- A pull from RAM or ROM changes S alone. -/
theorem State.pull_snd_memory {s : State} (h : s.kindAt (stackAddr (s.sp + 1)) ≠ .device) :
    s.pull.2 = { s with sp := s.sp + 1 } := by
  rw [State.pull_eq, State.touch_memory h]

/-- S is restored because it counts down and up again modulo 256; only the stored byte stays. -/
theorem State.pull_push_snd {s : State} (h : s.kindAt (stackAddr s.sp) = .ram) (v : Byte) :
    (s.push v).pull.2 = { s with mem := (s.push v).mem } := by
  have hsp : (s.push v).sp + 1 = s.sp := BitVec.sub_add_cancel _ _
  have hk : (s.push v).kindAt (stackAddr ((s.push v).sp + 1)) ≠ .device := by simp [h]
  rw [State.pull_snd_memory hk, hsp, State.push_ram h]

/-- Settles O31, from what one push and one pull do. -/
theorem pullReversesPush : Obligations.PullReversesPush := by
  intro s v
  refine ⟨s.push_eq v, storesByte_push s v, s.pull_eq, fun h => ?_, stackAddr_toNat s.sp⟩
  exact Prod.ext (State.pull_push h v) (State.pull_push_snd h v)

/-! ### PackP and UnpackP (R26, R27) -/

/-- The bit that P_LAYOUT gives to no flag is P_BIT5. -/
theorem State.packP_getLsbD_of_not_mem {s : State} {k : Fin 8} (h : k ∉ s.params.pLayout.positions) (b : Bool) :
    (s.packP b).getLsbD k = s.params.pBit5 := by
  simp only [PLayout.positions, List.mem_cons, List.not_mem_nil, or_false, not_or] at h
  obtain ⟨hn, hv, hb, hd, hi, hz, hc⟩ := h
  simp only [State.packP_getLsbD, State.statusBit, hn, hv, hb, hd, hi, hz, hc, if_false]

/-- Unpacking the packed status restores every flag, B included where B itself is packed. -/
theorem State.unpackP_packP {s : State} (h : s.params.pLayout.distinct = true) : s.unpackP (s.packP s.flagB) = s := by
  obtain ⟨hn, hv, hb, hd, hi, hz, hc⟩ := State.packP_flags h s.flagB
  simp only [State.unpackP, hn, hv, hb, hd, hi, hz, hc]

/-- Packing an unpacked byte gives each flag's bit back. -/
theorem State.packP_unpackP_getLsbD {s : State} (h : s.params.pLayout.distinct = true) (v : Byte) {k : Fin 8}
    (hk : k ∈ s.params.pLayout.positions) :
    ((s.unpackP v).packP (s.unpackP v).flagB).getLsbD k = v.getLsbD k := by
  obtain ⟨hn, hv, hb, hd, hi, hz, hc⟩ := State.packP_flags (s := s.unpackP v) h (s.unpackP v).flagB
  simp only [PLayout.positions, List.mem_cons, List.not_mem_nil, or_false] at hk
  obtain rfl | rfl | rfl | rfl | rfl | rfl | rfl := hk
  · exact hn
  · exact hv
  · exact hb
  · exact hd
  · exact hi
  · exact hz
  · exact hc

/-- The default layout leaves only bit 5 without a flag (R26). -/
theorem mem_positions_standard : ∀ k : Fin 8, k ∈ PLayout.standard.positions ↔ k ≠ 5 := by decide

/-- Under the default layout, with P_BIT5 = 1, packing an unpacked byte changes bit 5 at most, which becomes 1. -/
theorem State.packP_unpackP_standard {s : State} (hl : s.params.pLayout = PLayout.standard)
    (h5 : s.params.pBit5 = true) (v : Byte) : (s.unpackP v).packP (s.unpackP v).flagB = v ||| 0x20 := by
  have mask : ∀ k : Fin 8, (0x20 : Byte).getLsbD k = decide (k = 5) := by decide
  have bits : ∀ k : Fin 8, ((s.unpackP v).packP (s.unpackP v).flagB).getLsbD k = (v ||| 0x20).getLsbD k := by
    intro k
    rw [BitVec.getLsbD_or, mask]
    by_cases hk : k ∈ s.params.pLayout.positions
    · have hne : k ≠ 5 := (mem_positions_standard k).mp (hl ▸ hk)
      rw [State.packP_unpackP_getLsbD (hl ▸ rfl) v hk]
      simp [hne]
    · have heq : k = 5 := by simpa [hl, mem_positions_standard] using hk
      rw [State.packP_getLsbD_of_not_mem (s := s.unpackP v) hk]
      simp [heq, h5]
  exact BitVec.eq_of_getLsbD_eq fun i hi => bits ⟨i, hi⟩

/-- The bits of a packed status under the default layout, from 7 down to 0 (R26). -/
theorem State.packP_standard {s : State} (hl : s.params.pLayout = PLayout.standard) (b : Bool) :
    (s.packP b).getLsbD 7 = s.flagN ∧ (s.packP b).getLsbD 6 = s.flagV ∧ (s.packP b).getLsbD 5 = s.params.pBit5 ∧
      (s.packP b).getLsbD 4 = b ∧ (s.packP b).getLsbD 3 = s.flagD ∧ (s.packP b).getLsbD 2 = s.flagI ∧
      (s.packP b).getLsbD 1 = s.flagZ ∧ (s.packP b).getLsbD 0 = s.flagC := by
  have flags := State.packP_flags (s := s) (hl ▸ rfl) b
  have bit5 := State.packP_getLsbD_of_not_mem (s := s) (k := 5) (by simp [hl, mem_positions_standard]) b
  rw [hl] at flags
  obtain ⟨hn, hv, hb, hd, hi, hz, hc⟩ := flags
  exact ⟨hn, hv, bit5, hb, hd, hi, hz, hc⟩

/-- The flags an unpacked byte gives under the default layout (R27). -/
theorem State.unpackP_standard {s : State} (hl : s.params.pLayout = PLayout.standard) (v : Byte) :
    s.unpackP v = { s with
      flagN := v.getLsbD 7, flagV := v.getLsbD 6, flagB := v.getLsbD 4, flagD := v.getLsbD 3,
      flagI := v.getLsbD 2, flagZ := v.getLsbD 1, flagC := v.getLsbD 0 } := by
  unfold State.unpackP
  rw [hl]
  rfl

/-- Settles O32: the bits of a packed status, then the two round trips, then the default layout in numbers. -/
theorem statusByteLayoutAndRoundTrip : Obligations.StatusByteLayoutAndRoundTrip := by
  intro s b v
  refine ⟨⟨rfl, fun h => ?_⟩, fun hl => ?_⟩
  · obtain ⟨hn, hv, hb, hd, hi, hz, hc⟩ := State.packP_flags h b
    exact ⟨hn, hv, hb, hd, hi, hz, hc, fun _ hk => State.packP_getLsbD_of_not_mem hk b, State.unpackP_packP h,
      fun _ hk => State.packP_unpackP_getLsbD h v hk⟩
  · obtain ⟨h7, h6, h5, h4, h3, h2, h1, h0⟩ := State.packP_standard hl b
    exact ⟨h7, h6, h5, h4, h3, h2, h1, h0, State.unpackP_standard hl v,
      fun hp => State.packP_unpackP_standard hl hp v⟩

end Sys2Proof.Machine
end

section
/-! PROOFS. The opcode bytes that are no instruction (`30_encoding.md` R95): O44. -/

namespace Sys2Proof.Machine

/-! ### The lookup and the decoder -/

/-- The opcode map answers nothing exactly where no row has the byte. -/
theorem lookupOpcode_eq_none {op : Byte} : lookupOpcode op = none ↔ op ∉ opcodeTable.map Row.opcode := by
  simp only [lookupOpcode, Option.map_eq_none_iff, List.find?_eq_none, beq_iff_eq, List.mem_map, not_exists, not_and]

/-- The decoder looks at an unlisted opcode byte alone, not at what follows. -/
theorem decode_of_unlisted {op : Byte} (h : lookupOpcode op = none) (rest : List Byte) :
    decode (op :: rest) = .error (.unlistedOpcode op) := by
  simp only [decode, h]

/-! ### The step -/

/-- A fetch ends at an unlisted opcode byte, with that byte. -/
theorem fetch_of_unlisted {s : State} (h : lookupOpcode (s.read s.pc) = none) : fetch s = .error (s.read s.pc) := by
  simp only [fetch, State.load_fst, h]

/-- A step at an unlisted opcode byte is refused, for the reason ILLEGAL_OPCODE gives. -/
theorem step_of_unlisted {s : State} (hb : NoBoundaryEvent s) (h : lookupOpcode (s.read s.pc) = none) :
    step s = .refused (illegalOpcodeRefusal s (s.read s.pc)) := by
  simp only [step, boundaryEvent_eq_none.mpr hb, fetch_of_unlisted h]

/-- Under ILLEGAL_OPCODE = REFUSE the reason names the byte. -/
theorem illegalOpcodeRefusal_of_refuse {s : State} (h : s.params.illegalOpcode = .refuse) (op : Byte) :
    illegalOpcodeRefusal s op = .unlistedOpcode op := by
  simp only [illegalOpcodeRefusal, h]

/-- Settles O44: each of the 256 bytes is in a row of the opcode map or in R95's list, never in both; the decoder and
the step follow from the lookup. -/
theorem unlistedOpcodesAreRefused : Obligations.UnlistedOpcodesAreRefused := by
  intro s op
  refine ⟨lookupOpcode_eq_none.trans ?_, decode_of_unlisted, fun hb hp hop h => ?_⟩
  · clear s
    revert op
    decide +kernel
  · subst hop
    rw [step_of_unlisted hb h, illegalOpcodeRefusal_of_refuse hp]

end Sys2Proof.Machine
end

section
/-! PROOFS. Loads and stores (`40_load_store.md` R110 to R115): O1 and O2. -/

namespace Sys2Proof.Machine

/-! ### The loads of a pointer leave PC alone (R85, R86) -/

theorem eaIzx_snd_pc (zp : Byte) (s : State) : (eaIzx zp s).2.pc = s.pc := by
  simp only [eaIzx_snd, State.pointer_snd, State.touch_pc]

theorem eaIzy_snd_pc (zp : Byte) (s : State) : (eaIzy zp s).2.pc = s.pc := by
  simp only [eaIzy_snd, State.pointer_snd, State.touch_pc]

/-! ### What a load leads to (R110, R111, R112)

The operand `o` is the byte loaded and the state after the reads it took, which leave PC at the instruction. -/

/-- N is bit 7 of the byte SetZN is given (R24). -/
theorem State.setZN_eq (s : State) (v : Byte) : s.setZN v = { s with flagZ := v == 0, flagN := v.getLsbD 7 } := by
  simp only [State.setZN, BitVec.msb_eq_getLsbD_last]

theorem next_loadA (o : Byte × State) {pc : Word} (hpc : o.2.pc = pc) (len : Word) :
    (.next ((loadA o).advance len) : Result) =
      .next { o.2 with a := o.1, flagZ := o.1 == 0, flagN := o.1.getLsbD 7, pc := pc + len } := by
  simp only [loadA, State.setZN_eq, State.advance, hpc]

theorem next_loadX (o : Byte × State) {pc : Word} (hpc : o.2.pc = pc) (len : Word) :
    (.next ((loadX o).advance len) : Result) =
      .next { o.2 with x := o.1, flagZ := o.1 == 0, flagN := o.1.getLsbD 7, pc := pc + len } := by
  simp only [loadX, State.setZN_eq, State.advance, hpc]

theorem next_loadY (o : Byte × State) {pc : Word} (hpc : o.2.pc = pc) (len : Word) :
    (.next ((loadY o).advance len) : Result) =
      .next { o.2 with y := o.1, flagZ := o.1 == 0, flagN := o.1.getLsbD 7, pc := pc + len } := by
  simp only [loadY, State.setZN_eq, State.advance, hpc]

/-! ### What a store leads to (R113, R114, R115) -/

/-- A store instruction changes memory by one byte, or the record of device accesses by one event, and PC; `u` is the
state after the reads of its pointer, if it has one. -/
theorem next_store {u : State} {pc : Word} (hpc : u.pc = pc) (addr : Word) (v : Byte) (len : Word) :
    ∃ t, (.next ((u.store addr v).advance len) : Result) = .next t ∧
      t = { u with mem := t.mem, bus := t.bus, pc := pc + len } ∧ StoresByte u t addr v := by
  subst hpc
  exact ⟨(u.store addr v).advance len, rfl, rfl, (storesByte_store u addr v).congr rfl rfl rfl rfl rfl⟩

/-! ### The two families, one line per mode: encoding, cycles, effect -/

/-- Settles O2: in each mode the effect is one store at the mode's effective address, then the end of the
instruction. -/
theorem storesWriteOneByteAndNothingElse : Obligations.StoresWriteOneByteAndNothingElse := by
  intro s b w
  refine ⟨?staZp, ?staZpx, ?staAbs, ?staAbx, ?staAby, ?staIzx, ?staIzy, ?stxZp, ?stxZpy, ?stxAbs, ?styZp, ?styZpx,
    ?styAbs⟩
  case staZp => exact ⟨rfl, rfl, next_store rfl (eaZp b) s.a 2⟩
  case staZpx => exact ⟨rfl, rfl, next_store rfl (eaZpx b s) s.a 2⟩
  case staAbs => exact ⟨rfl, rfl, next_store rfl w s.a 3⟩
  case staAbx => exact ⟨rfl, rfl, next_store rfl (eaAbx w s) s.a 3⟩
  case staAby => exact ⟨rfl, rfl, next_store rfl (eaAby w s) s.a 3⟩
  case staIzx => exact ⟨rfl, rfl, next_store (eaIzx_snd_pc b s) (eaIzx b s).1 s.a 2⟩
  case staIzy => exact ⟨rfl, rfl, next_store (eaIzy_snd_pc b s) (eaIzy b s).1 s.a 2⟩
  case stxZp => exact ⟨rfl, rfl, next_store rfl (eaZp b) s.x 2⟩
  case stxZpy => exact ⟨rfl, rfl, next_store rfl (eaZpy b s) s.x 2⟩
  case stxAbs => exact ⟨rfl, rfl, next_store rfl w s.x 3⟩
  case styZp => exact ⟨rfl, rfl, next_store rfl (eaZp b) s.y 2⟩
  case styZpx => exact ⟨rfl, rfl, next_store rfl (eaZpx b s) s.y 2⟩
  case styAbs => exact ⟨rfl, rfl, next_store rfl w s.y 3⟩

/-- Settles O1: in each mode the effect is one load of A, X or Y from the mode's operand, then the end of the
instruction. -/
theorem loadsCopyTheOperandAndSetZN : Obligations.LoadsCopyTheOperandAndSetZN := by
  intro s b w
  refine ⟨?ldaImm, ?ldaZp, ?ldaZpx, ?ldaAbs, ?ldaAbx, ?ldaAby, ?ldaIzx, ?ldaIzy, ?ldxImm, ?ldxZp, ?ldxZpy, ?ldxAbs,
    ?ldxAby, ?ldyImm, ?ldyZp, ?ldyZpx, ?ldyAbs, ?ldyAbx⟩
  case ldaImm => exact ⟨rfl, rfl, next_loadA (b, s) rfl 2⟩
  case ldaZp => exact ⟨rfl, rfl, next_loadA (s.load (eaZp b)) rfl 2⟩
  case ldaZpx => exact ⟨rfl, rfl, next_loadA (s.load (eaZpx b s)) rfl 2⟩
  case ldaAbs => exact ⟨rfl, rfl, next_loadA (s.load w) rfl 3⟩
  case ldaAbx => exact ⟨rfl, rfl, next_loadA (s.load (eaAbx w s)) rfl 3⟩
  case ldaAby => exact ⟨rfl, rfl, next_loadA (s.load (eaAby w s)) rfl 3⟩
  case ldaIzx => exact ⟨rfl, rfl, next_loadA (loadAt (eaIzx b s)) (eaIzx_snd_pc b s) 2⟩
  case ldaIzy => exact ⟨rfl, rfl, next_loadA (loadAt (eaIzy b s)) (eaIzy_snd_pc b s) 2⟩
  case ldxImm => exact ⟨rfl, rfl, next_loadX (b, s) rfl 2⟩
  case ldxZp => exact ⟨rfl, rfl, next_loadX (s.load (eaZp b)) rfl 2⟩
  case ldxZpy => exact ⟨rfl, rfl, next_loadX (s.load (eaZpy b s)) rfl 2⟩
  case ldxAbs => exact ⟨rfl, rfl, next_loadX (s.load w) rfl 3⟩
  case ldxAby => exact ⟨rfl, rfl, next_loadX (s.load (eaAby w s)) rfl 3⟩
  case ldyImm => exact ⟨rfl, rfl, next_loadY (b, s) rfl 2⟩
  case ldyZp => exact ⟨rfl, rfl, next_loadY (s.load (eaZp b)) rfl 2⟩
  case ldyZpx => exact ⟨rfl, rfl, next_loadY (s.load (eaZpx b s)) rfl 2⟩
  case ldyAbs => exact ⟨rfl, rfl, next_loadY (s.load w) rfl 3⟩
  case ldyAbx => exact ⟨rfl, rfl, next_loadY (s.load (eaAbx w s)) rfl 3⟩

end Sys2Proof.Machine
end

section
/-! PROOFS. Register transfers and stack operations (`41_transfers_stack.md` R120 to R129): O3, O4 and O5. -/

namespace Sys2Proof.Machine

/-! ### What a push and a pull of the flags lead to (R126, R127, R129) -/

/-- A push instruction changes memory by one byte, or the record of device accesses by one event, S and PC. -/
theorem next_push (s : State) (v : Byte) :
    ∃ t, (.next ((s.push v).advance 1) : Result) = .next t ∧
      t = { s with mem := t.mem, bus := t.bus, sp := s.sp - 1, pc := s.pc + 1 } ∧
      StoresByte s t (stackAddr s.sp) v :=
  ⟨(s.push v).advance 1, rfl, rfl, (storesByte_push s v).congr rfl rfl rfl rfl rfl⟩

/-- PLP's flags come from the byte of one pull, each from the bit that P_LAYOUT gives it. -/
theorem next_pullFlags (s : State) :
    (.next (s.pullFlags.advance 1) : Result) =
      let v := s.read (stackAddr (s.sp + 1))
      let l := s.params.pLayout
      .next { s.touch (stackAddr (s.sp + 1)) with
        flagN := v.getLsbD l.n, flagV := v.getLsbD l.v, flagB := v.getLsbD l.b, flagD := v.getLsbD l.d,
        flagI := v.getLsbD l.i, flagZ := v.getLsbD l.z, flagC := v.getLsbD l.c, sp := s.sp + 1, pc := s.pc + 1 } := by
  simp only [State.pullFlags, State.pull_eq, State.unpackP, State.touch_params, State.advance, State.touch_pc]

/-! ### The three families, one line per instruction: encoding, cycles, effect -/

/-- Settles O4: the effect is one push, of A or of the packed status, then the end of the instruction. -/
theorem phaAndPhpPushOneByte : Obligations.PhaAndPhpPushOneByte := by
  intro s
  refine ⟨?pha, ?php⟩
  case pha => exact ⟨rfl, rfl, next_push s s.a⟩
  case php => exact ⟨rfl, rfl, next_push s (s.packP (s.pushedB s.params.phpPushedB))⟩

/-- Settles O3: each transfer is a load of its destination from the source register, TXS alone a plain copy. -/
theorem transfersCopyRegisters : Obligations.TransfersCopyRegisters := by
  intro s
  refine ⟨?tax, ?tay, ?txa, ?tya, ?tsx, ?txs⟩
  case tax => exact ⟨rfl, rfl, next_loadX (s.a, s) rfl 1⟩
  case tay => exact ⟨rfl, rfl, next_loadY (s.a, s) rfl 1⟩
  case txa => exact ⟨rfl, rfl, next_loadA (s.x, s) rfl 1⟩
  case tya => exact ⟨rfl, rfl, next_loadA (s.y, s) rfl 1⟩
  case tsx => exact ⟨rfl, rfl, next_loadX (s.sp, s) rfl 1⟩
  case txs => exact ⟨rfl, rfl, rfl⟩

/-- Settles O5: PLA loads A from one pull, PLP the flags. -/
theorem plaAndPlpPullOneByte : Obligations.PlaAndPlpPullOneByte := by
  intro s
  refine ⟨?pla, ?plp⟩
  case pla => exact ⟨rfl, rfl, next_loadA s.pull rfl 1⟩
  case plp => exact ⟨rfl, rfl, next_pullFlags s⟩

end Sys2Proof.Machine
end

section
/-! PROOFS. Logical operations (`42_logical.md` R135 to R138): O6 and O7. -/

namespace Sys2Proof.Machine

/-! ### The loads of a pointer leave A alone (R85, R86) -/

theorem eaIzx_snd_a (zp : Byte) (s : State) : (eaIzx zp s).2.a = s.a := by
  simp only [eaIzx_snd, State.pointer_snd, State.touch_a]

theorem eaIzy_snd_a (zp : Byte) (s : State) : (eaIzy zp s).2.a = s.a := by
  simp only [eaIzy_snd, State.pointer_snd, State.touch_a]

/-! ### What a logical operation leads to (R135 to R138)

The operand `o` is the byte combined with A and the state after the reads it took, which leave A and PC as the
instruction found them. -/

/-- AND, EOR and ORA differ only in the operation `op`: each loads A with what `op` makes of A and the operand. -/
theorem next_loadA_combine (op : Byte → Byte → Byte) (o : Byte × State) {a : Byte} {pc : Word} (ha : o.2.a = a)
    (hpc : o.2.pc = pc) (len : Word) :
    (.next ((loadA (op o.2.a o.1, o.2)).advance len) : Result) =
      .next { o.2 with a := op a o.1, flagZ := op a o.1 == 0, flagN := (op a o.1).getLsbD 7, pc := pc + len } := by
  subst ha
  exact next_loadA (op o.2.a o.1, o.2) hpc len

theorem next_andA (o : Byte × State) {a : Byte} {pc : Word} (ha : o.2.a = a) (hpc : o.2.pc = pc) (len : Word) :
    (.next ((andA o).advance len) : Result) =
      .next { o.2 with a := a &&& o.1, flagZ := (a &&& o.1) == 0, flagN := (a &&& o.1).getLsbD 7, pc := pc + len } :=
  next_loadA_combine (· &&& ·) o ha hpc len

theorem next_eorA (o : Byte × State) {a : Byte} {pc : Word} (ha : o.2.a = a) (hpc : o.2.pc = pc) (len : Word) :
    (.next ((eorA o).advance len) : Result) =
      .next { o.2 with a := a ^^^ o.1, flagZ := (a ^^^ o.1) == 0, flagN := (a ^^^ o.1).getLsbD 7, pc := pc + len } :=
  next_loadA_combine (· ^^^ ·) o ha hpc len

theorem next_oraA (o : Byte × State) {a : Byte} {pc : Word} (ha : o.2.a = a) (hpc : o.2.pc = pc) (len : Word) :
    (.next ((oraA o).advance len) : Result) =
      .next { o.2 with a := a ||| o.1, flagZ := (a ||| o.1) == 0, flagN := (a ||| o.1).getLsbD 7, pc := pc + len } :=
  next_loadA_combine (· ||| ·) o ha hpc len

/-- BIT takes Z from the AND with A, but N and V from the operand alone. -/
theorem next_bitTest (o : Byte × State) {a : Byte} {pc : Word} (ha : o.2.a = a) (hpc : o.2.pc = pc) (len : Word) :
    (.next ((bitTest o).advance len) : Result) =
      .next { o.2 with
        flagZ := (a &&& o.1) == 0, flagN := o.1.getLsbD 7, flagV := o.1.getLsbD 6, pc := pc + len } := by
  simp only [bitTest, State.advance, BitVec.msb_eq_getLsbD_last, ha, hpc]

/-! ### The two families, one line per mode: encoding, cycles, effect -/

/-- Settles O7: in both modes the effect is one test of the mode's operand, then the end of the instruction. -/
theorem bitTestsMemoryAgainstAccumulator : Obligations.BitTestsMemoryAgainstAccumulator := by
  intro s b w
  refine ⟨?bitZp, ?bitAbs⟩
  case bitZp => exact ⟨rfl, rfl, next_bitTest (s.load (eaZp b)) rfl rfl 2⟩
  case bitAbs => exact ⟨rfl, rfl, next_bitTest (s.load w) rfl rfl 3⟩

/-- Settles O6: in each mode the effect is one AND, EOR or ORA of A with the mode's operand, then the end of the
instruction. -/
theorem logicalOperationsCombineBitByBit : Obligations.LogicalOperationsCombineBitByBit := by
  intro s b w
  refine ⟨?andImm, ?andZp, ?andZpx, ?andAbs, ?andAbx, ?andAby, ?andIzx, ?andIzy,
    ?eorImm, ?eorZp, ?eorZpx, ?eorAbs, ?eorAbx, ?eorAby, ?eorIzx, ?eorIzy,
    ?oraImm, ?oraZp, ?oraZpx, ?oraAbs, ?oraAbx, ?oraAby, ?oraIzx, ?oraIzy⟩
  case andImm => exact ⟨rfl, rfl, next_andA (b, s) rfl rfl 2⟩
  case andZp => exact ⟨rfl, rfl, next_andA (s.load (eaZp b)) rfl rfl 2⟩
  case andZpx => exact ⟨rfl, rfl, next_andA (s.load (eaZpx b s)) rfl rfl 2⟩
  case andAbs => exact ⟨rfl, rfl, next_andA (s.load w) rfl rfl 3⟩
  case andAbx => exact ⟨rfl, rfl, next_andA (s.load (eaAbx w s)) rfl rfl 3⟩
  case andAby => exact ⟨rfl, rfl, next_andA (s.load (eaAby w s)) rfl rfl 3⟩
  case andIzx => exact ⟨rfl, rfl, next_andA (loadAt (eaIzx b s)) (eaIzx_snd_a b s) (eaIzx_snd_pc b s) 2⟩
  case andIzy => exact ⟨rfl, rfl, next_andA (loadAt (eaIzy b s)) (eaIzy_snd_a b s) (eaIzy_snd_pc b s) 2⟩
  case eorImm => exact ⟨rfl, rfl, next_eorA (b, s) rfl rfl 2⟩
  case eorZp => exact ⟨rfl, rfl, next_eorA (s.load (eaZp b)) rfl rfl 2⟩
  case eorZpx => exact ⟨rfl, rfl, next_eorA (s.load (eaZpx b s)) rfl rfl 2⟩
  case eorAbs => exact ⟨rfl, rfl, next_eorA (s.load w) rfl rfl 3⟩
  case eorAbx => exact ⟨rfl, rfl, next_eorA (s.load (eaAbx w s)) rfl rfl 3⟩
  case eorAby => exact ⟨rfl, rfl, next_eorA (s.load (eaAby w s)) rfl rfl 3⟩
  case eorIzx => exact ⟨rfl, rfl, next_eorA (loadAt (eaIzx b s)) (eaIzx_snd_a b s) (eaIzx_snd_pc b s) 2⟩
  case eorIzy => exact ⟨rfl, rfl, next_eorA (loadAt (eaIzy b s)) (eaIzy_snd_a b s) (eaIzy_snd_pc b s) 2⟩
  case oraImm => exact ⟨rfl, rfl, next_oraA (b, s) rfl rfl 2⟩
  case oraZp => exact ⟨rfl, rfl, next_oraA (s.load (eaZp b)) rfl rfl 2⟩
  case oraZpx => exact ⟨rfl, rfl, next_oraA (s.load (eaZpx b s)) rfl rfl 2⟩
  case oraAbs => exact ⟨rfl, rfl, next_oraA (s.load w) rfl rfl 3⟩
  case oraAbx => exact ⟨rfl, rfl, next_oraA (s.load (eaAbx w s)) rfl rfl 3⟩
  case oraAby => exact ⟨rfl, rfl, next_oraA (s.load (eaAby w s)) rfl rfl 3⟩
  case oraIzx => exact ⟨rfl, rfl, next_oraA (loadAt (eaIzx b s)) (eaIzx_snd_a b s) (eaIzx_snd_pc b s) 2⟩
  case oraIzy => exact ⟨rfl, rfl, next_oraA (loadAt (eaIzy b s)) (eaIzy_snd_a b s) (eaIzy_snd_pc b s) 2⟩

end Sys2Proof.Machine
end

section
/-! PROOFS. Addition and comparison (`43_arithmetic.md` R145 to R152): O10, O8 and O14. -/

namespace Sys2Proof.Machine

/-! ### AddCore in numbers (R147) -/

/-- Masking a byte with its sign bit and testing for zero reads bit 7. -/
theorem and_signBit_bne_zero (v : Byte) : ((v &&& 0x80) != 0) = v.msb := by
  rw [BitVec.msb_eq_getLsbD_last, show (0x80 : Byte) = BitVec.twoPow 8 7 from rfl, BitVec.and_twoPow]
  cases v.getLsbD 7 <;> rfl

theorem addCore_r_toNat (a m : Byte) (c : Bool) :
    (addCore a m c).r.toNat = (a.toNat + m.toNat + c.toNat) % 256 := BitVec.toNat_ofNat _ 8

theorem addCore_carry_iff (a m : Byte) (c : Bool) :
    (addCore a m c).carry = true ↔ 256 ≤ a.toNat + m.toNat + c.toNat := decide_eq_true_iff

/-- The model's mask in sign bits: both inputs have the sign that the result has not. -/
theorem addCore_overflow_iff_msb (a m : Byte) (c : Bool) :
    (addCore a m c).overflow = true ↔ a.msb = m.msb ∧ (addCore a m c).r.msb ≠ a.msb := by
  have signs : ∀ p q r : Bool, ((p ^^ r) && (q ^^ r)) = true ↔ p = q ∧ r ≠ p := by decide
  calc (addCore a m c).overflow = true
      ↔ ((a.msb ^^ (addCore a m c).r.msb) && (m.msb ^^ (addCore a m c).r.msb)) = true := by
        simp only [addCore, and_signBit_bne_zero, BitVec.msb_and, BitVec.msb_xor]
    _ ↔ a.msb = m.msb ∧ (addCore a m c).r.msb ≠ a.msb := signs _ _ _

/-- The signs say whether the signed sum fits a byte, because the result agrees with it modulo 256. -/
theorem addCore_overflow_iff_toInt (a m : Byte) (c : Bool) :
    (addCore a m c).overflow = true ↔
      a.toInt + m.toInt + (c.toNat : Int) < -128 ∨ 127 < a.toInt + m.toInt + (c.toNat : Int) := by
  have ha := a.isLt
  have hm := m.isLt
  have hc := c.toNat_le
  simp only [addCore_overflow_iff_msb, addCore_r_toNat, BitVec.msb_eq_decide, BitVec.toInt_eq_toNat_cond, ne_eq,
    decide_eq_decide]
  omega

/-- Settles O10: the sum and the carry as AddCore computes them, the overflow from the sign bits. -/
theorem addCoreComputesSumCarryOverflow : Obligations.AddCoreComputesSumCarryOverflow := by
  intro a m c
  exact ⟨addCore_r_toNat a m c, addCore_carry_iff a m c, addCore_overflow_iff_toInt a m c,
    addCore_overflow_iff_msb a m c⟩

/-! ### The reads of an operand leave all but the record of device accesses alone (R54, R85, R86) -/

theorem State.load_snd_eq (s : State) (addr : Word) :
    (s.load addr).2 = { s with bus := (s.load addr).2.bus } := rfl

theorem loadAt_eaIzx_snd_eq (zp : Byte) (s : State) :
    (loadAt (eaIzx zp s)).2 = { s with bus := (loadAt (eaIzx zp s)).2.bus } := rfl

theorem loadAt_eaIzy_snd_eq (zp : Byte) (s : State) :
    (loadAt (eaIzy zp s)).2 = { s with bus := (loadAt (eaIzy zp s)).2.bus } := rfl

/-! ### What an addition or subtraction leads to outside decimal mode (R145, R146)

Here and below the operand `o` is the byte and the state after the reads it took, which differs from `s`, the state
at the instruction, in the record of device accesses alone. -/

/-- The gate is open with D = 0, and with DECIMAL_MODE = BINARY whatever D is. -/
theorem decimalGate_of_binary {s : State} (h : s.flagD = false ∨ s.params.decimalMode = .binary) (r : AddOut)
    (len : Word) : decimalGate r len s = .next ((s.setSum r).advance len) := by
  rcases h with hd | hm
  · simp [decimalGate, hd]
  · simp [decimalGate, hm]

/-- An open gate writes the outcome `r` to A, C, V, Z and N and ends the instruction. -/
theorem decimalGate_operand {s : State} {o : Byte × State} (ho : o.2 = { s with bus := o.2.bus })
    (h : s.flagD = false ∨ s.params.decimalMode = .binary) (r : AddOut) (len : Word) :
    decimalGate r len o.2 =
      .next { o.2 with
        a := r.r, flagC := r.carry, flagV := r.overflow, flagZ := r.r == 0, flagN := r.r.getLsbD 7,
        pc := s.pc + len } := by
  have hd : o.2.flagD = s.flagD := by rw [ho]
  have hparams : o.2.params = s.params := by rw [ho]
  have hpc : o.2.pc = s.pc := by rw [ho]
  rw [decimalGate_of_binary (by rwa [hd, hparams])]
  simp only [State.setSum, State.setZN_eq, State.advance, hpc]

/-- ADC outside decimal mode: AddCore of A and C as the instruction found them. -/
theorem addA_operand {s : State} {o : Byte × State} (ho : o.2 = { s with bus := o.2.bus })
    (h : s.flagD = false ∨ s.params.decimalMode = .binary) (len : Word) :
    addA o len =
      let r := addCore s.a o.1 s.flagC
      .next { o.2 with
        a := r.r, flagC := r.carry, flagV := r.overflow, flagZ := r.r == 0, flagN := r.r.getLsbD 7,
        pc := s.pc + len } := by
  have ha : o.2.a = s.a := by rw [ho]
  have hc : o.2.flagC = s.flagC := by rw [ho]
  rw [addA, ha, hc]
  exact decimalGate_operand ho h _ len

/-! ### What a comparison leads to (R149 to R152) -/

/-- CMP, CPX and CPY differ only in the register, whose value is `r8`; no flag is an input. -/
theorem next_compare {s : State} {o : Byte × State} (ho : o.2 = { s with bus := o.2.bus }) (r8 : Byte) (len : Word) :
    (.next ((o.2.compare r8 o.1).advance len) : Result) =
      .next { o.2 with
        flagC := decide (o.1.toNat ≤ r8.toNat), flagZ := decide (r8 = o.1), flagN := (r8 - o.1).getLsbD 7,
        pc := s.pc + len } := by
  have hpc : o.2.pc = s.pc := by rw [ho]
  simp only [State.compare, State.advance, BitVec.msb_eq_getLsbD_last, beq_eq_decide, hpc]

/-! ### The two families, one line per mode: encoding, cycles, effect -/

/-- Settles O8: in each mode the effect is one addition of the mode's operand through the open decimal gate. -/
theorem adcAddsWithCarry : Obligations.AdcAddsWithCarry := by
  intro s b w h
  refine ⟨?adcImm, ?adcZp, ?adcZpx, ?adcAbs, ?adcAbx, ?adcAby, ?adcIzx, ?adcIzy⟩
  case adcImm => exact ⟨rfl, rfl, addA_operand (o := (b, s)) rfl h 2⟩
  case adcZp => exact ⟨rfl, rfl, addA_operand (s.load_snd_eq (eaZp b)) h 2⟩
  case adcZpx => exact ⟨rfl, rfl, addA_operand (s.load_snd_eq (eaZpx b s)) h 2⟩
  case adcAbs => exact ⟨rfl, rfl, addA_operand (s.load_snd_eq w) h 3⟩
  case adcAbx => exact ⟨rfl, rfl, addA_operand (s.load_snd_eq (eaAbx w s)) h 3⟩
  case adcAby => exact ⟨rfl, rfl, addA_operand (s.load_snd_eq (eaAby w s)) h 3⟩
  case adcIzx => exact ⟨rfl, rfl, addA_operand (loadAt_eaIzx_snd_eq b s) h 2⟩
  case adcIzy => exact ⟨rfl, rfl, addA_operand (loadAt_eaIzy_snd_eq b s) h 2⟩

/-- Settles O14: in each mode the effect is one comparison of A, X or Y with the mode's operand, then the end of the
instruction. -/
theorem comparesSetCarryZeroNegative : Obligations.ComparesSetCarryZeroNegative := by
  intro s b w
  refine ⟨?cmpImm, ?cmpZp, ?cmpZpx, ?cmpAbs, ?cmpAbx, ?cmpAby, ?cmpIzx, ?cmpIzy, ?cpxImm, ?cpxZp, ?cpxAbs,
    ?cpyImm, ?cpyZp, ?cpyAbs⟩
  case cmpImm => exact ⟨rfl, rfl, next_compare (o := (b, s)) rfl s.a 2⟩
  case cmpZp => exact ⟨rfl, rfl, next_compare (s.load_snd_eq (eaZp b)) s.a 2⟩
  case cmpZpx => exact ⟨rfl, rfl, next_compare (s.load_snd_eq (eaZpx b s)) s.a 2⟩
  case cmpAbs => exact ⟨rfl, rfl, next_compare (s.load_snd_eq w) s.a 3⟩
  case cmpAbx => exact ⟨rfl, rfl, next_compare (s.load_snd_eq (eaAbx w s)) s.a 3⟩
  case cmpAby => exact ⟨rfl, rfl, next_compare (s.load_snd_eq (eaAby w s)) s.a 3⟩
  case cmpIzx => exact ⟨rfl, rfl, next_compare (loadAt_eaIzx_snd_eq b s) s.a 2⟩
  case cmpIzy => exact ⟨rfl, rfl, next_compare (loadAt_eaIzy_snd_eq b s) s.a 2⟩
  case cpxImm => exact ⟨rfl, rfl, next_compare (o := (b, s)) rfl s.x 2⟩
  case cpxZp => exact ⟨rfl, rfl, next_compare (s.load_snd_eq (eaZp b)) s.x 2⟩
  case cpxAbs => exact ⟨rfl, rfl, next_compare (s.load_snd_eq w) s.x 3⟩
  case cpyImm => exact ⟨rfl, rfl, next_compare (o := (b, s)) rfl s.y 2⟩
  case cpyZp => exact ⟨rfl, rfl, next_compare (s.load_snd_eq (eaZp b)) s.y 2⟩
  case cpyAbs => exact ⟨rfl, rfl, next_compare (s.load_snd_eq w) s.y 3⟩

end Sys2Proof.Machine
end

section
/-! PROOFS. Increments and decrements (`44_inc_dec.md` R160 to R165): O15 and O16. -/

namespace Sys2Proof.Machine

/-! ### What a write-back leads to (R160, R163) -/

/-- A write-back changes memory by one byte, or the record of device accesses by one event, then Z, N and PC; `u` is
the state after the load of the byte. -/
theorem next_writeBack (u : State) (ea : Word) (r : Byte) (len : Word) :
    ∃ t, (.next ((writeBack ea r u).advance len) : Result) = .next t ∧
      t = { u with mem := t.mem, bus := t.bus, flagZ := r == 0, flagN := r.getLsbD 7, pc := u.pc + len } ∧
      StoresByte u t ea r := by
  refine ⟨(writeBack ea r u).advance len, rfl, ?_, (storesByte_store u ea r).congr rfl rfl rfl rfl rfl⟩
  rw [writeBack, State.setZN_eq]
  rfl

/-- INC is the write-back of the byte read plus one; the load itself only records a device access. -/
theorem next_incAt (s : State) (ea : Word) (len : Word) :
    let r : Byte := s.read ea + 1
    ∃ t, (.next ((incAt ea s).advance len) : Result) = .next t ∧
      t = { s with mem := t.mem, bus := t.bus, flagZ := r == 0, flagN := r.getLsbD 7, pc := s.pc + len } ∧
      StoresByte (s.touch ea) t ea r :=
  next_writeBack (s.touch ea) ea (s.read ea + 1) len

/-- DEC is the write-back of the byte read minus one. -/
theorem next_decAt (s : State) (ea : Word) (len : Word) :
    let r : Byte := s.read ea - 1
    ∃ t, (.next ((decAt ea s).advance len) : Result) = .next t ∧
      t = { s with mem := t.mem, bus := t.bus, flagZ := r == 0, flagN := r.getLsbD 7, pc := s.pc + len } ∧
      StoresByte (s.touch ea) t ea r :=
  next_writeBack (s.touch ea) ea (s.read ea - 1) len

/-! ### The two families, one line per form: encoding, cycles, effect -/

/-- Settles O15: in each mode the effect is one load and one write-back at the mode's effective address, then the end
of the instruction. -/
theorem incAndDecChangeOneByte : Obligations.IncAndDecChangeOneByte := by
  intro s b w
  refine ⟨?incZp, ?incZpx, ?incAbs, ?incAbx, ?decZp, ?decZpx, ?decAbs, ?decAbx⟩
  case incZp => exact ⟨rfl, rfl, next_incAt s (eaZp b) 2⟩
  case incZpx => exact ⟨rfl, rfl, next_incAt s (eaZpx b s) 2⟩
  case incAbs => exact ⟨rfl, rfl, next_incAt s w 3⟩
  case incAbx => exact ⟨rfl, rfl, next_incAt s (eaAbx w s) 3⟩
  case decZp => exact ⟨rfl, rfl, next_decAt s (eaZp b) 2⟩
  case decZpx => exact ⟨rfl, rfl, next_decAt s (eaZpx b s) 2⟩
  case decAbs => exact ⟨rfl, rfl, next_decAt s w 3⟩
  case decAbx => exact ⟨rfl, rfl, next_decAt s (eaAbx w s) 3⟩

/-- Settles O16: each of the four is a load of X or Y with its own value plus or minus one. -/
theorem indexIncrementsAndDecrementsWrap : Obligations.IndexIncrementsAndDecrementsWrap := by
  intro s
  refine ⟨?inx, ?iny, ?dex, ?dey⟩
  case inx => exact ⟨rfl, rfl, next_loadX (s.x + 1, s) rfl 1⟩
  case iny => exact ⟨rfl, rfl, next_loadY (s.y + 1, s) rfl 1⟩
  case dex => exact ⟨rfl, rfl, next_loadX (s.x - 1, s) rfl 1⟩
  case dey => exact ⟨rfl, rfl, next_loadY (s.y - 1, s) rfl 1⟩

end Sys2Proof.Machine
end

section
/-! PROOFS. Shifts and rotates (`45_shifts.md` R170 to R174): O17, O18, O19 and O20. -/

namespace Sys2Proof.Machine

/-! ### The result bits in order (R170 to R173)

The model shifts and then sets the vacated bit with a mask; the rules of the spec list the bits of the result. -/

theorem aslCore_r (v : Byte) : (aslCore v).r = v.extractLsb' 0 7 ++ 0#1 :=
  BitVec.shiftLeft_eq_concat_of_lt (by decide)

theorem lsrCore_r (v : Byte) : (lsrCore v).r = 0#1 ++ v.extractLsb' 1 7 :=
  BitVec.ushiftRight_eq_extractLsb'_of_lt (by decide)

/-- ROL fills the bit that ASL leaves 0. -/
theorem rolCore_r (v : Byte) (c : Bool) : (rolCore v c).r = v.extractLsb' 0 7 ++ BitVec.ofBool c := by
  have mask : (if c then 0x01 else 0x00 : Byte) = 0#7 ++ BitVec.ofBool c := by cases c <;> rfl
  calc (rolCore v c).r = (aslCore v).r ||| (if c then 0x01 else 0x00) := rfl
    _ = (v.extractLsb' 0 7 ++ 0#1) ||| (0#7 ++ BitVec.ofBool c) := by rw [aslCore_r, mask]
    _ = v.extractLsb' 0 7 ++ BitVec.ofBool c := by rw [BitVec.or_append, BitVec.or_zero, BitVec.zero_or]

/-- ROR fills the bit that LSR leaves 0. -/
theorem rorCore_r (v : Byte) (c : Bool) : (rorCore v c).r = BitVec.ofBool c ++ v.extractLsb' 1 7 := by
  have mask : (if c then 0x80 else 0x00 : Byte) = BitVec.ofBool c ++ 0#7 := by cases c <;> rfl
  calc (rorCore v c).r = (lsrCore v).r ||| (if c then 0x80 else 0x00) := rfl
    _ = (0#1 ++ v.extractLsb' 1 7) ||| (BitVec.ofBool c ++ 0#7) := by rw [lsrCore_r, mask]
    _ = BitVec.ofBool c ++ v.extractLsb' 1 7 := by rw [BitVec.or_append, BitVec.or_zero, BitVec.zero_or]

/-! ### What a shift leads to (R174)

The four mnemonics differ only in the outcome `o`; `r` is its result byte, written as the rule has it. -/

/-- On A, a shift changes A, C, Z, N and PC alone. -/
theorem next_shiftA (s : State) {o : ShiftOut} {r : Byte} (hr : o.r = r) :
    (.next ((shiftA o s).advance 1) : Result) =
      .next { s with a := r, flagC := o.carry, flagZ := r == 0, flagN := r.getLsbD 7, pc := s.pc + 1 } := by
  simp only [shiftA, State.setZN_eq, State.advance, hr]

/-- In memory, a shift is a write-back (as INC's and DEC's) of the result to the address loaded, and C; that C is set
does not change what is stored. -/
theorem next_shiftAt (s : State) (ea : Word) {o : ShiftOut} {r : Byte} (hr : o.r = r) (len : Word) :
    ∃ t, (.next ((shiftAt ea o s).advance len) : Result) = .next t ∧
      t = { s with
        mem := t.mem, bus := t.bus, flagC := o.carry, flagZ := r == 0, flagN := r.getLsbD 7, pc := s.pc + len } ∧
      StoresByte (s.touch ea) t ea r := by
  subst hr
  obtain ⟨t, hnext, ht, hstore⟩ := next_writeBack { s.touch ea with flagC := o.carry } ea o.r len
  exact ⟨t, hnext, ht, hstore.congr rfl rfl rfl rfl rfl⟩

/-! ### The four families, one line per mode: encoding, cycles, effect -/

/-- Settles O17: in each mode the effect is one left shift, of A or of the byte at the mode's effective
address, then the end of the instruction. -/
theorem aslShiftsLeftIntoCarry : Obligations.AslShiftsLeftIntoCarry := by
  intro s b w
  refine ⟨?aslAcc, ?aslZp, ?aslZpx, ?aslAbs, ?aslAbx⟩
  case aslAcc => exact ⟨rfl, rfl, next_shiftA s (aslCore_r s.a)⟩
  case aslZp => exact ⟨rfl, rfl, next_shiftAt s (eaZp b) (aslCore_r _) 2⟩
  case aslZpx => exact ⟨rfl, rfl, next_shiftAt s (eaZpx b s) (aslCore_r _) 2⟩
  case aslAbs => exact ⟨rfl, rfl, next_shiftAt s w (aslCore_r _) 3⟩
  case aslAbx => exact ⟨rfl, rfl, next_shiftAt s (eaAbx w s) (aslCore_r _) 3⟩

/-- Settles O18: in each mode the effect is one right shift, of A or of the byte at the mode's effective
address, then the end of the instruction. -/
theorem lsrShiftsRightIntoCarry : Obligations.LsrShiftsRightIntoCarry := by
  intro s b w
  refine ⟨?lsrAcc, ?lsrZp, ?lsrZpx, ?lsrAbs, ?lsrAbx⟩
  case lsrAcc => exact ⟨rfl, rfl, next_shiftA s (lsrCore_r s.a)⟩
  case lsrZp => exact ⟨rfl, rfl, next_shiftAt s (eaZp b) (lsrCore_r _) 2⟩
  case lsrZpx => exact ⟨rfl, rfl, next_shiftAt s (eaZpx b s) (lsrCore_r _) 2⟩
  case lsrAbs => exact ⟨rfl, rfl, next_shiftAt s w (lsrCore_r _) 3⟩
  case lsrAbx => exact ⟨rfl, rfl, next_shiftAt s (eaAbx w s) (lsrCore_r _) 3⟩

/-- Settles O19: in each mode the effect is one left rotate through C, of A or of the byte at the mode's effective
address, then the end of the instruction. -/
theorem rolRotatesLeftThroughCarry : Obligations.RolRotatesLeftThroughCarry := by
  intro s b w
  refine ⟨?rolAcc, ?rolZp, ?rolZpx, ?rolAbs, ?rolAbx⟩
  case rolAcc => exact ⟨rfl, rfl, next_shiftA s (rolCore_r s.a s.flagC)⟩
  case rolZp => exact ⟨rfl, rfl, next_shiftAt s (eaZp b) (rolCore_r _ s.flagC) 2⟩
  case rolZpx => exact ⟨rfl, rfl, next_shiftAt s (eaZpx b s) (rolCore_r _ s.flagC) 2⟩
  case rolAbs => exact ⟨rfl, rfl, next_shiftAt s w (rolCore_r _ s.flagC) 3⟩
  case rolAbx => exact ⟨rfl, rfl, next_shiftAt s (eaAbx w s) (rolCore_r _ s.flagC) 3⟩

/-- Settles O20: in each mode the effect is one right rotate through C, of A or of the byte at the mode's effective
address, then the end of the instruction. -/
theorem rorRotatesRightThroughCarry : Obligations.RorRotatesRightThroughCarry := by
  intro s b w
  refine ⟨?rorAcc, ?rorZp, ?rorZpx, ?rorAbs, ?rorAbx⟩
  case rorAcc => exact ⟨rfl, rfl, next_shiftA s (rorCore_r s.a s.flagC)⟩
  case rorZp => exact ⟨rfl, rfl, next_shiftAt s (eaZp b) (rorCore_r _ s.flagC) 2⟩
  case rorZpx => exact ⟨rfl, rfl, next_shiftAt s (eaZpx b s) (rorCore_r _ s.flagC) 2⟩
  case rorAbs => exact ⟨rfl, rfl, next_shiftAt s w (rorCore_r _ s.flagC) 3⟩
  case rorAbx => exact ⟨rfl, rfl, next_shiftAt s (eaAbx w s) (rorCore_r _ s.flagC) 3⟩

end Sys2Proof.Machine
end

section
/-! PROOFS. Jumps and calls (`46_jumps_calls.md` R180 to R184): O22, O21 and O23. -/

namespace Sys2Proof.Machine

/-! ### A return address on the stack (R183, R184) -/

/-- Pushing an address, high byte first, is two stores (R183); S wraps between them, so that the second may be at the
other end of the stack page. -/
theorem stores_pushAddress (s : State) (ret : Word) :
    Stores s ((s.push (hiByte ret)).push (loByte ret)) (returnBytes s ret) :=
  (storesByte_push s (hiByte ret)).append rfl (storesByte_push (s.push (hiByte ret)) (loByte ret))

/-- Two pushes touch memory, the record of device accesses and S alone. -/
theorem State.push_push_eq (s : State) (v w : Byte) :
    (s.push v).push w =
      { s with mem := ((s.push v).push w).mem, bus := ((s.push v).push w).bus, sp := s.sp - 2 } := by
  have hsp : s.sp - 2 = s.sp - 1 - 1 := by bv_omega
  rw [hsp]
  rfl

/-- A call changes memory and the record of device accesses by two stores, S and PC; that PC is set does not change
what is stored. -/
theorem next_pushAddress (s : State) (ret target : Word) :
    ∃ t, (.next { (s.push (hiByte ret)).push (loByte ret) with pc := target } : Result) = .next t ∧
      t = { s with mem := t.mem, bus := t.bus, sp := s.sp - 2, pc := target } ∧ Stores s t (returnBytes s ret) :=
  ⟨_, rfl, congrArg (fun t : State => { t with pc := target }) (s.push_push_eq (hiByte ret) (loByte ret)),
    (stores_pushAddress s ret).congr rfl rfl rfl rfl rfl⟩

/-- Two pulls are two loads, the second after the first, and S counts up twice (R184). -/
theorem State.pull_pull_eq (s : State) :
    let low := stackAddr (s.sp + 1)
    let high := stackAddr (s.sp + 2)
    s.pull.2.pull = ((s.touch low).read high, { (s.touch low).touch high with sp := s.sp + 2 }) := by
  have hsp : s.sp + 2 = s.sp + 1 + 1 := by bv_omega
  rw [hsp]
  rfl

/-! ### Where JMP (Indirect) reads the high byte (R182) -/

theorem indirectHighAddr_eq (ptr : Word) (p : Params) :
    indirectHighAddr ptr p = if p.jmpIndWrap = .page then joinBytes (hiByte ptr) (loByte ptr + 1) else ptr + 1 := by
  unfold indirectHighAddr
  cases p.jmpIndWrap <;> rfl

/-- Off the last byte of a page, adding one to the low byte gives no carry, so both readings of JMP_IND_WRAP agree. -/
theorem joinBytes_loByte_add_one {w : Word} (h : loByte w ≠ 0xFF) : joinBytes (hiByte w) (loByte w + 1) = w + 1 := by
  have hlo : w.toNat % 256 ≠ 255 := fun e => h (BitVec.eq_of_toNat_eq (by rw [loByte_toNat, e]; rfl))
  have hw := w.isLt
  apply BitVec.eq_of_toNat_eq
  simp only [joinBytes_toNat, hiByte_toNat, loByte_toNat, BitVec.toNat_add, BitVec.reduceToNat]
  omega

/-! ### The three mnemonics: encoding, cycles, effect -/

/-- Settles O22: the effect is the push of the address of JSR's own last byte, then PC from the operand. -/
theorem jsrPushesReturnAddressMinusOne : Obligations.JsrPushesReturnAddressMinusOne := by
  intro s w
  exact ⟨rfl, rfl, next_pushAddress s (s.pc + 2) w⟩

/-- Settles O21: JMP (Indirect) loads the target at the pointer, with the high byte's address by JMP_IND_WRAP. -/
theorem jmpSetsProgramCounter : Obligations.JmpSetsProgramCounter := by
  intro s w
  refine ⟨?jmpAbs, ?jmpInd, joinBytes_loByte_add_one⟩
  case jmpAbs => exact ⟨rfl, rfl, rfl⟩
  case jmpInd =>
    refine ⟨rfl, rfl, ?_⟩
    rw [← indirectHighAddr_eq]
    rfl

/-- Settles O23: the address is two pulls, low byte first; one is added to the word, with its carry. -/
theorem rtsPullsReturnAddressAndAddsOne : Obligations.RtsPullsReturnAddressAndAddsOne := by
  intro s
  refine ⟨rfl, rfl, ?_⟩
  show execRts s = _
  simp only [execRts, State.pull_pull_eq, State.pull_byte]

end Sys2Proof.Machine
end

section
/-! PROOFS. Branches (`47_branches.md` R190 to R198): O24. -/

namespace Sys2Proof.Machine

/-! ### What a branch leads to (R190) and how long it takes (R293)

The eight mnemonics differ only in the condition `cond`, a flag or its negation. -/

/-- A branch changes PC alone. -/
theorem next_branch (cond : Bool) (off : Byte) (s : State) :
    (.next (branch cond off s) : Result) =
      .next { s with pc := if cond then s.pc + 2 + off.signExtend 16 else s.pc + 2 } := by
  cases cond with
  | true => rfl
  | false => rfl

/-- The pages compared are those of the target and of the next instruction, not of the branch itself. -/
theorem two_add_branchCycles (cond : Bool) (off : Byte) (s : State) :
    2 + branchCycles cond off s =
      if cond then (if hiByte (s.pc + 2 + off.signExtend 16) = hiByte (s.pc + 2) then 3 else 4) else 2 := by
  cases cond with
  | true => exact apply_ite (2 + ·) (hiByte (branchTarget off s) = hiByte (s.pc + 2)) 1 2
  | false => rfl

/-! ### The eight mnemonics: encoding, cycles, effect -/

/-- Settles O24: each mnemonic is the one branch with its own condition. -/
theorem branchesAddSignedOffsetWhenTaken : Obligations.BranchesAddSignedOffsetWhenTaken := by
  intro s b
  refine ⟨?bcc, ?bcs, ?beq, ?bmi, ?bne, ?bpl, ?bvc, ?bvs⟩
  case bcc => exact ⟨rfl, two_add_branchCycles (!s.flagC) b s, next_branch (!s.flagC) b s⟩
  case bcs => exact ⟨rfl, two_add_branchCycles s.flagC b s, next_branch s.flagC b s⟩
  case beq => exact ⟨rfl, two_add_branchCycles s.flagZ b s, next_branch s.flagZ b s⟩
  case bmi => exact ⟨rfl, two_add_branchCycles s.flagN b s, next_branch s.flagN b s⟩
  case bne => exact ⟨rfl, two_add_branchCycles (!s.flagZ) b s, next_branch (!s.flagZ) b s⟩
  case bpl => exact ⟨rfl, two_add_branchCycles (!s.flagN) b s, next_branch (!s.flagN) b s⟩
  case bvc => exact ⟨rfl, two_add_branchCycles (!s.flagV) b s, next_branch (!s.flagV) b s⟩
  case bvs => exact ⟨rfl, two_add_branchCycles s.flagV b s, next_branch s.flagV b s⟩

end Sys2Proof.Machine
end

section
/-! PROOFS. Status flag changes (`48_status_flags.md` R205 to R211): O25. -/

namespace Sys2Proof.Machine

/-! ### The seven mnemonics: encoding, cycles, effect

Each effect is one flag set to a constant, then the end of the instruction. That end reads PC, which no flag update
touches, so both sides are the same record field by field. -/

/-- Settles O25, mnemonic by mnemonic: the four that clear a flag, then the three that set one. -/
theorem flagInstructionsSetOrClearOneFlag : Obligations.FlagInstructionsSetOrClearOneFlag := by
  intro s
  refine ⟨?clc, ?cld, ?cli, ?clv, ?sec, ?sed, ?sei⟩
  case clc => exact ⟨rfl, rfl, rfl⟩
  case cld => exact ⟨rfl, rfl, rfl⟩
  case cli => exact ⟨rfl, rfl, rfl⟩
  case clv => exact ⟨rfl, rfl, rfl⟩
  case sec => exact ⟨rfl, rfl, rfl⟩
  case sed => exact ⟨rfl, rfl, rfl⟩
  case sei => exact ⟨rfl, rfl, rfl⟩

end Sys2Proof.Machine
end

section
/-! PROOFS. The opcode map, the decoder and the encoder (`30_encoding.md` R70, R71, R93 to R96): O45, O46, O47 and O59. -/

namespace Sys2Proof

open Machine

/-! ### A row of the opcode map and the encoder agree -/

/-- The encoder writes what a form makes as the opcode byte and the operand bytes of the form, low byte first. -/
def Form.Encodes (op : Byte) : Form → Prop
  | .f1 i => encode i = [op]
  | .f2 k => ∀ b, encode (k b) = [op, b]
  | .f3 k => ∀ w, encode (k w) = [op, loByte w, hiByte w]

/-- What a row of R93 is found by where a written instruction is looked up: its mnemonic and its mode. -/
def Row.key (r : Row) : Mnemonic × Mode := ((r.form.build 0).mnemonic, (r.form.build 0).mode)

/-- The instruction's row: the map holds it, the encoder follows it, and it makes the instruction of its operand. -/
def Instr.RowIs (i : Instr) (r : Row) : Prop :=
  r ∈ opcodeTable ∧ r.opcode = i.opcode ∧ r.form.Encodes r.opcode ∧ r.form.build i.operand = i ∧
    r.key = (i.mnemonic, i.mode)

theorem Instr.exists_row_of_f1 {i : Instr} (hmem : ⟨i.opcode, .f1 i⟩ ∈ opcodeTable) (he : encode i = [i.opcode]) :
    ∃ r, i.RowIs r :=
  ⟨_, hmem, rfl, he, rfl, rfl⟩

theorem Instr.exists_row_of_f2 {k : Byte → Instr} {b : Byte} (hmem : ⟨(k b).opcode, .f2 k⟩ ∈ opcodeTable)
    (he : ∀ c, encode (k c) = [(k b).opcode, c]) (ho : (k b).operand = b.toNat)
    (hkey : ((k 0).mnemonic, (k 0).mode) = ((k b).mnemonic, (k b).mode)) : ∃ r, (k b).RowIs r := by
  refine ⟨_, hmem, rfl, he, ?_, hkey⟩
  rw [Form.build, ho, BitVec.ofNat_toNat, BitVec.setWidth_eq]

theorem Instr.exists_row_of_f3 {k : Word → Instr} {w : Word} (hmem : ⟨(k w).opcode, .f3 k⟩ ∈ opcodeTable)
    (he : ∀ c, encode (k c) = [(k w).opcode, loByte c, hiByte c]) (ho : (k w).operand = w.toNat)
    (hkey : ((k 0).mnemonic, (k 0).mode) = ((k w).mnemonic, (k w).mode)) : ∃ r, (k w).RowIs r := by
  refine ⟨_, hmem, rfl, he, ?_, hkey⟩
  rw [Form.build, ho, BitVec.ofNat_toNat, BitVec.setWidth_eq]

/-- The opcode map holds the tables of R93. -/
theorem tables_subset_opcodeTable :
    loadStoreRows ⊆ opcodeTable ∧ transferRows ⊆ opcodeTable ∧ logicalRows ⊆ opcodeTable ∧
      arithmeticRows ⊆ opcodeTable ∧ incDecRows ⊆ opcodeTable ∧ shiftRows ⊆ opcodeTable ∧ jumpRows ⊆ opcodeTable ∧
      branchRows ⊆ opcodeTable ∧ statusRows ⊆ opcodeTable ∧ systemRows ⊆ opcodeTable := by
  refine ⟨?_, ?_, ?_, ?_, ?_, ?_, ?_, ?_, ?_, ?_⟩ <;> intro r hr <;>
    simp only [opcodeTable, List.mem_append, hr, true_or, or_true]

/-- Every instruction has its row, table by table, by how many operand bytes it has. -/
theorem Instr.exists_row (i : Instr) : ∃ r, i.RowIs r := by
  obtain ⟨hload, htransfer, hlogical, harithmetic, hincDec, hshift, hjump, hbranch, hstatus, hsystem⟩ :=
    tables_subset_opcodeTable
  cases i with
  | ldaImm b | ldaZp b | ldaZpx b | ldaIzx b | ldaIzy b | ldxImm b | ldxZp b | ldxZpy b | ldyImm b | ldyZp b
  | ldyZpx b | staZp b | staZpx b | staIzx b | staIzy b | stxZp b | stxZpy b | styZp b | styZpx b =>
    exact exists_row_of_f2 (b := b) (hload (by repeat constructor)) (fun _ => rfl) rfl rfl
  | ldaAbs w | ldaAbx w | ldaAby w | ldxAbs w | ldxAby w | ldyAbs w | ldyAbx w | staAbs w | staAbx w | staAby w
  | stxAbs w | styAbs w =>
    exact exists_row_of_f3 (w := w) (hload (by repeat constructor)) (fun _ => rfl) rfl rfl
  | tax | tay | txa | tya | tsx | txs | pha | php | pla | plp =>
    exact exists_row_of_f1 (htransfer (by repeat constructor)) rfl
  | andImm b | andZp b | andZpx b | andIzx b | andIzy b | eorImm b | eorZp b | eorZpx b | eorIzx b | eorIzy b
  | oraImm b | oraZp b | oraZpx b | oraIzx b | oraIzy b | bitZp b =>
    exact exists_row_of_f2 (b := b) (hlogical (by repeat constructor)) (fun _ => rfl) rfl rfl
  | andAbs w | andAbx w | andAby w | eorAbs w | eorAbx w | eorAby w | oraAbs w | oraAbx w | oraAby w | bitAbs w =>
    exact exists_row_of_f3 (w := w) (hlogical (by repeat constructor)) (fun _ => rfl) rfl rfl
  | adcImm b | adcZp b | adcZpx b | adcIzx b | adcIzy b | sbcImm b | sbcZp b | sbcZpx b | sbcIzx b | sbcIzy b
  | cmpImm b | cmpZp b | cmpZpx b | cmpIzx b | cmpIzy b | cpxImm b | cpxZp b | cpyImm b | cpyZp b =>
    exact exists_row_of_f2 (b := b) (harithmetic (by repeat constructor)) (fun _ => rfl) rfl rfl
  | adcAbs w | adcAbx w | adcAby w | sbcAbs w | sbcAbx w | sbcAby w | cmpAbs w | cmpAbx w | cmpAby w | cpxAbs w
  | cpyAbs w =>
    exact exists_row_of_f3 (w := w) (harithmetic (by repeat constructor)) (fun _ => rfl) rfl rfl
  | inx | iny | dex | dey =>
    exact exists_row_of_f1 (hincDec (by repeat constructor)) rfl
  | incZp b | incZpx b | decZp b | decZpx b =>
    exact exists_row_of_f2 (b := b) (hincDec (by repeat constructor)) (fun _ => rfl) rfl rfl
  | incAbs w | incAbx w | decAbs w | decAbx w =>
    exact exists_row_of_f3 (w := w) (hincDec (by repeat constructor)) (fun _ => rfl) rfl rfl
  | aslAcc | lsrAcc | rolAcc | rorAcc =>
    exact exists_row_of_f1 (hshift (by repeat constructor)) rfl
  | aslZp b | aslZpx b | lsrZp b | lsrZpx b | rolZp b | rolZpx b | rorZp b | rorZpx b =>
    exact exists_row_of_f2 (b := b) (hshift (by repeat constructor)) (fun _ => rfl) rfl rfl
  | aslAbs w | aslAbx w | lsrAbs w | lsrAbx w | rolAbs w | rolAbx w | rorAbs w | rorAbx w =>
    exact exists_row_of_f3 (w := w) (hshift (by repeat constructor)) (fun _ => rfl) rfl rfl
  | rts =>
    exact exists_row_of_f1 (hjump (by repeat constructor)) rfl
  | jmpAbs w | jmpInd w | jsr w =>
    exact exists_row_of_f3 (w := w) (hjump (by repeat constructor)) (fun _ => rfl) rfl rfl
  | bcc b | bcs b | beq b | bmi b | bne b | bpl b | bvc b | bvs b =>
    exact exists_row_of_f2 (b := b) (hbranch (by repeat constructor)) (fun _ => rfl) rfl rfl
  | clc | cld | cli | clv | sec | sed | sei =>
    exact exists_row_of_f1 (hstatus (by repeat constructor)) rfl
  | brk | nop | rti =>
    exact exists_row_of_f1 (hsystem (by repeat constructor)) rfl

/-- No two rows have an opcode in common. -/
theorem opcodeTable_opcode_nodup : (opcodeTable.map Row.opcode).Nodup := by decide +kernel

/-- No two rows have a mnemonic and a mode in common. -/
theorem opcodeTable_key_nodup : (opcodeTable.map Row.key).Nodup := by decide +kernel

/-- Where a list holds an element and no other of its image, a search for the image finds the element. -/
theorem find?_eq_some_of_nodup_map {α β : Type} [BEq β] [LawfulBEq β] {g : α → β} {l : List α} (hl : (l.map g).Nodup)
    {a : α} (ha : a ∈ l) : l.find? (fun x => g x == g a) = some a := by
  cases hfind : l.find? (fun x => g x == g a) with
  | none => simpa using List.find?_eq_none.mp hfind a ha
  | some x =>
    have hx : g x = g a := by simpa using List.find?_some hfind
    rw [List.inj_on_of_nodup_map hl (List.mem_of_find?_eq_some hfind) ha hx]

/-- An opcode leads to the instruction's own row. -/
theorem lookupOpcode_of_rowIs {i : Instr} {r : Row} (h : i.RowIs r) : lookupOpcode i.opcode = some r.form := by
  obtain ⟨hmem, hop, -⟩ := h
  rw [lookupOpcode, ← hop, find?_eq_some_of_nodup_map opcodeTable_opcode_nodup hmem, Option.map_some]

/-- The encoder follows the row that the opcode map answers: the row of the instruction it makes of operand 0 is the
same one, having the same mnemonic and mode. -/
theorem encodes_of_lookupOpcode {op : Byte} {f : Form} (h : lookupOpcode op = some f) : f.Encodes op := by
  obtain ⟨r, hfind, rfl⟩ := Option.map_eq_some_iff.mp h
  have hop : r.opcode = op := by simpa using List.find?_some hfind
  obtain ⟨r', hmem', -, hencodes, -, hkey⟩ := (r.form.build 0).exists_row
  have hr : r' = r := List.inj_on_of_nodup_map opcodeTable_key_nodup hmem' (List.mem_of_find?_eq_some hfind) hkey
  rw [← hop, ← hr]
  exact hencodes

/-! ### Parsing operand bytes undoes writing them -/

/-- The bytes that a form parses an instruction from are the operand bytes of that instruction. -/
theorem Form.cons_eq_encode_of_parse {op : Byte} {f : Form} (hf : f.Encodes op) {bytes rest : List Byte} {i : Instr}
    (h : f.parse bytes = .ok (i, rest)) : op :: bytes = encode i ++ rest := by
  match f, bytes, h with
  | .f1 i, bytes, rfl => rw [hf]; rfl
  | .f2 k, b :: bytes, rfl => rw [hf]; rfl
  | .f3 k, b₁ :: b₂ :: bytes, rfl => rw [hf, loByte_joinBytes, hiByte_joinBytes]; rfl

/-- What a form makes of an operand it parses again from the operand's bytes, whatever follows them. -/
theorem Form.parse_build {op : Byte} {f : Form} (hf : f.Encodes op) (n : Nat) (rest : List Byte) :
    ∃ tail, encode (f.build n) = op :: tail ∧ f.parse (tail ++ rest) = .ok (f.build n, rest) := by
  match f with
  | .f1 i => exact ⟨_, hf, rfl⟩
  | .f2 k => exact ⟨_, hf _, rfl⟩
  | .f3 k =>
    refine ⟨_, hf _, ?_⟩
    simp only [List.cons_append, List.nil_append, Form.parse, joinBytes_hi_lo, Form.build]

/-! ### Every instruction is well formed (R96) -/

theorem Instr.encodedLength (i : Instr) : Laws.EncodedLength.Statement i := by
  cases i with
  | tax | tay | txa | tya | tsx | txs | pha | php | pla | plp | inx | iny | dex | dey | aslAcc | lsrAcc
  | rolAcc | rorAcc | rts | clc | cld | cli | clv | sec | sed | sei | brk | nop | rti =>
    exact Laws.EncodedLength.of_f1 _ rfl rfl rfl rfl
  | ldaImm b | ldaZp b | ldaZpx b | ldaIzx b | ldaIzy b | ldxImm b | ldxZp b | ldxZpy b | ldyImm b | ldyZp b
  | ldyZpx b | staZp b | staZpx b | staIzx b | staIzy b | stxZp b | stxZpy b | styZp b | styZpx b | andImm b
  | andZp b | andZpx b | andIzx b | andIzy b | eorImm b | eorZp b | eorZpx b | eorIzx b | eorIzy b | oraImm b
  | oraZp b | oraZpx b | oraIzx b | oraIzy b | bitZp b | adcImm b | adcZp b | adcZpx b | adcIzx b | adcIzy b
  | sbcImm b | sbcZp b | sbcZpx b | sbcIzx b | sbcIzy b | cmpImm b | cmpZp b | cmpZpx b | cmpIzx b | cmpIzy b
  | cpxImm b | cpxZp b | cpyImm b | cpyZp b | incZp b | incZpx b | decZp b | decZpx b | aslZp b | aslZpx b
  | lsrZp b | lsrZpx b | rolZp b | rolZpx b | rorZp b | rorZpx b | bcc b | bcs b | beq b | bmi b | bne b
  | bpl b | bvc b | bvs b =>
    exact Laws.EncodedLength.of_f2 _ b rfl rfl rfl rfl
  | ldaAbs w | ldaAbx w | ldaAby w | ldxAbs w | ldxAby w | ldyAbs w | ldyAbx w | staAbs w | staAbx w | staAby w
  | stxAbs w | styAbs w | andAbs w | andAbx w | andAby w | eorAbs w | eorAbx w | eorAby w | oraAbs w | oraAbx w
  | oraAby w | bitAbs w | adcAbs w | adcAbx w | adcAby w | sbcAbs w | sbcAbx w | sbcAby w | cmpAbs w | cmpAbx w
  | cmpAby w | cpxAbs w | cpyAbs w | incAbs w | incAbx w | decAbs w | decAbx w | aslAbs w | aslAbx w | lsrAbs w
  | lsrAbx w | rolAbs w | rolAbx w | rorAbs w | rorAbx w | jmpAbs w | jmpInd w | jsr w =>
    exact Laws.EncodedLength.of_f3 _ w rfl rfl rfl rfl

theorem Instr.wellFormed (i : Instr) : WellFormed i := by
  obtain ⟨-, -, -, hw⟩ := i.encodedLength
  exact hw

/-! ### The statements -/

/-- Settles O45: the decoder finds the instruction's row by its opcode, and the row's form parses the operand again. -/
theorem decodeOfEncodeIsTheInstruction : Obligations.DecodeOfEncodeIsTheInstruction := by
  intro i rest _
  obtain ⟨r, hrow⟩ := i.exists_row
  have hlookup := lookupOpcode_of_rowIs hrow
  obtain ⟨-, -, -, hbuild, -⟩ := hrow
  obtain ⟨tail, hencode, hparse⟩ := Form.parse_build (encodes_of_lookupOpcode hlookup) i.operand rest
  rw [hbuild] at hencode hparse
  rw [hencode, List.cons_append]
  simp only [decode, hlookup, hparse]

/-- A decoded byte string is the encoding of the instruction, then the rest. -/
theorem eq_encode_append_of_decode {bytes rest : List Byte} {i : Instr} (h : decode bytes = .ok (i, rest)) :
    bytes = encode i ++ rest := by
  match bytes, h with
  | op :: tail, h =>
    simp only [decode] at h
    split at h
    · next f hlookup => exact Form.cons_eq_encode_of_parse (encodes_of_lookupOpcode hlookup) h
    · exact absurd h (by simp)

/-- Settles O46: what decodes came from a row of the map, whose instruction the encoder writes with that opcode. -/
theorem encodeOfDecodeIsTheBytes : Obligations.EncodeOfDecodeIsTheBytes :=
  fun _ _ i h => ⟨i.wellFormed, eq_encode_append_of_decode h⟩

/-- Settles O59: a mnemonic and a mode have one row, and it makes the instruction of its operand. -/
theorem writtenInstructionsAssembleToThemselves : Obligations.WrittenInstructionsAssembleToThemselves := by
  intro i
  refine ⟨i.wellFormed, ?_⟩
  obtain ⟨r, hmem, -, -, hbuild, hkey⟩ := i.exists_row
  have hfind := find?_eq_some_of_nodup_map opcodeTable_key_nodup hmem
  have hbuilt : (opcodeTable.find? (fun q => q.key == r.key)).map (fun q => q.form.build i.operand) = some i := by
    rw [hfind, Option.map_some, hbuild]
  rw [hkey] at hbuilt
  rw [Line.toInstr, if_pos i.wellFormed]
  exact hbuilt

/-- Settles O47, word by word. -/
theorem sampleWordsDecode : Obligations.SampleWordsDecode := by
  refine ⟨?ldaImm, ?staAbx, ?staIzy, ?rorAbx, ?jmpInd, ?bne, ?brk, ?unlisted⟩
  case ldaImm => rfl
  case staAbx => rfl
  case staIzy => rfl
  case rorAbx => rfl
  case jmpInd => rfl
  case bne => rfl
  case brk => rfl
  case unlisted => rfl

end Sys2Proof
end

section
/-! PROOFS. What an instruction can do, said once: SUPPORT for the statements over the whole instruction set. -/

namespace Sys2Proof.Machine

/-! ### What memory and the record of device accesses keep (R44, R54; log 2)

Memory changes in RAM alone and stays canonical; the record grows, by accesses to device addresses. -/

/-- From `s` to `t` the memory map is respected. -/
structure RespectsMap (s t : State) : Prop where
  params : t.params = s.params
  fixed : ∀ addr, s.kindAt addr ≠ .ram → t.mem.read addr = s.mem.read addr
  recorded : ∃ new, t.bus = new ++ s.bus ∧ ∀ e ∈ new, s.kindAt e.addr = .device
  canonical : s.mem.wf = true → t.mem.wf = true

namespace RespectsMap

theorem refl (s : State) : RespectsMap s s := ⟨rfl, fun _ _ => rfl, ⟨[], rfl, by simp⟩, id⟩

theorem trans {s t u : State} (h : RespectsMap s t) (h' : RespectsMap t u) : RespectsMap s u := by
  obtain ⟨new, hnew, hdev⟩ := h.recorded
  obtain ⟨new', hnew', hdev'⟩ := h'.recorded
  have hk : ∀ addr, t.kindAt addr = s.kindAt addr := State.kindAt_congr h.params
  refine ⟨h'.params.trans h.params, fun addr hr => ?_, ⟨new' ++ new, ?_, fun e he => ?_⟩, h'.canonical ∘ h.canonical⟩
  · rw [h'.fixed addr (hk addr ▸ hr), h.fixed addr hr]
  · rw [hnew', hnew, List.append_assoc]
  · rcases List.mem_append.mp he with he | he
    · exact hk _ ▸ hdev' e he
    · exact hdev e he

/-- Registers, flags and lines play no part. -/
theorem congr {s t t' : State} (h : RespectsMap s t) (hp : t'.params = t.params) (hm : t'.mem = t.mem)
    (hb : t'.bus = t.bus) : RespectsMap s t' :=
  ⟨hp.trans h.params, hm ▸ h.fixed, hb ▸ h.recorded, hm ▸ h.canonical⟩

/-- A read leaves memory alone and records at most itself. -/
theorem touch (s : State) (addr : Word) : RespectsMap s (s.touch addr) := by
  refine ⟨rfl, fun _ _ => rfl, ?_, id⟩
  by_cases hk : s.kindAt addr = .device
  · exact ⟨[.read addr], by simp [hk], by simpa [BusAccess.addr] using hk⟩
  · exact ⟨[], by simp [hk], by simp⟩

/-- A store changes memory in RAM alone and records at most itself. -/
theorem store (s : State) (addr : Word) (v : Byte) : RespectsMap s (s.store addr v) := by
  refine ⟨rfl, fun b hb => ?_, ?_, fun h => State.store_wf h addr v⟩
  · rw [State.mem_read_store, if_neg (fun ⟨e, hk⟩ => hb (e ▸ hk))]
  · by_cases hk : s.kindAt addr = .device
    · exact ⟨[.write addr v], by simp [hk], by simpa [BusAccess.addr] using hk⟩
    · exact ⟨[], by simp [hk], by simp⟩

theorem touch_touch (s : State) (a b : Word) : RespectsMap s ((s.touch a).touch b) :=
  (touch s a).trans (touch _ b)

theorem touch_touch_touch (s : State) (a b c : Word) : RespectsMap s (((s.touch a).touch b).touch c) :=
  (touch_touch s a b).trans (touch _ c)

theorem push (s : State) (v : Byte) : RespectsMap s (s.push v) :=
  (store s (stackAddr s.sp) v).congr rfl rfl rfl

theorem push_push (s : State) (v w : Byte) : RespectsMap s ((s.push v).push w) :=
  (push s v).trans (push _ w)

theorem pull (s : State) : RespectsMap s s.pull.2 := (touch s (stackAddr (s.sp + 1))).congr rfl rfl rfl

theorem enterVector (s : State) (vector : Word) : RespectsMap s (s.enterVector vector) :=
  (touch_touch s vector (vector + 1)).congr rfl rfl rfl

theorem enterTrap (s : State) (ret : Word) (b : Bool) (vector : Word) :
    RespectsMap s (s.enterTrap ret b vector) :=
  ((push_push s (hiByte ret) (loByte ret)).trans (push _ (s.packP b))).trans (enterVector _ vector)

theorem leaveTrap (s : State) : RespectsMap s s.leaveTrap := by
  have hflags : RespectsMap s (s.pull.2.unpackP s.pull.1) := (pull s).congr rfl rfl rfl
  have haddress := (hflags.trans (pull _)).trans (pull _)
  exact ⟨haddress.params, haddress.fixed, haddress.recorded, haddress.canonical⟩

end RespectsMap

/-! ### The reads of an operand -/

/-- From `s` to `t` nothing is done but reads. -/
inductive Reads (s : State) : State → Prop
  | intro {bus : List BusAccess} (h : RespectsMap s { s with bus := bus }) : Reads s { s with bus := bus }

namespace Reads

theorem refl (s : State) : Reads s s := .intro (.refl s)

theorem touch (s : State) (addr : Word) : Reads s (s.touch addr) := .intro (.touch s addr)

theorem respectsMap {s t : State} (h : Reads s t) : RespectsMap s { s with bus := t.bus } := by
  obtain ⟨h⟩ := h
  exact h

theorem trans {s t u : State} (h : Reads s t) (h' : Reads t u) : Reads s u := by
  obtain ⟨h⟩ := h
  obtain ⟨h'⟩ := h'
  exact .intro (h.trans h')

theorem touch_touch (s : State) (a b : Word) : Reads s ((s.touch a).touch b) := (touch s a).trans (touch _ b)

theorem load (s : State) (addr : Word) : Reads s (s.load addr).2 := touch s addr

theorem eaIzx (zp : Byte) (s : State) : Reads s (Machine.eaIzx zp s).2 := touch_touch s _ _

theorem eaIzy (zp : Byte) (s : State) : Reads s (Machine.eaIzy zp s).2 := touch_touch s _ _

theorem loadAt_eaIzx (zp : Byte) (s : State) : Reads s (loadAt (Machine.eaIzx zp s)).2 :=
  (eaIzx zp s).trans (load _ _)

theorem loadAt_eaIzy (zp : Byte) (s : State) : Reads s (loadAt (Machine.eaIzy zp s)).2 :=
  (eaIzy zp s).trans (load _ _)

theorem indirectTarget (ptr : Word) (s : State) : Reads s (Machine.indirectTarget ptr s).2 := touch_touch s _ _

end Reads

/-! ### What an instruction leads to -/

/-- The sequential end of an instruction (R9). -/
def State.finish (s : State) (i : Instr) : State := s.advance (BitVec.ofNat 16 i.length)

/-- What an instruction at `s` can lead to: one constructor per way of working, with the mnemonics that work so. An
operand is a byte and the record of device accesses after the reads it took, which change nothing else. -/
inductive Effect (i : Instr) (s : State) : State → Prop
  | loadA (hm : [.lda, .txa, .tya, .and, .eor, .ora].contains i.mnemonic) {v : Byte} {bus : List BusAccess}
      (hbus : RespectsMap s { s with bus := bus }) : Effect i s ((loadA (v, { s with bus := bus })).finish i)
  | loadX (hm : [.ldx, .tax, .tsx, .inx, .dex].contains i.mnemonic) {v : Byte} {bus : List BusAccess}
      (hbus : RespectsMap s { s with bus := bus }) : Effect i s ((loadX (v, { s with bus := bus })).finish i)
  | loadY (hm : [.ldy, .tay, .iny, .dey].contains i.mnemonic) {v : Byte} {bus : List BusAccess}
      (hbus : RespectsMap s { s with bus := bus }) : Effect i s ((loadY (v, { s with bus := bus })).finish i)
  | store (hm : [.sta, .stx, .sty].contains i.mnemonic) (hmode : (i.mode == .acc) = false) {ea : Word} {v : Byte}
      {bus : List BusAccess} (hbus : RespectsMap s { s with bus := bus }) :
      Effect i s ((State.store { s with bus := bus } ea v).finish i)
  | sum (hm : [.adc, .sbc].contains i.mnemonic) {r : AddOut} {bus : List BusAccess}
      (hbus : RespectsMap s { s with bus := bus }) : Effect i s ((State.setSum { s with bus := bus } r).finish i)
  | unstatedSum (hm : [.adc, .sbc].contains i.mnemonic) {bus : List BusAccess}
      (hbus : RespectsMap s { s with bus := bus }) : Effect i s ((State.setUnstatedSum { s with bus := bus }).finish i)
  | compare (hm : [.cmp, .cpx, .cpy].contains i.mnemonic) {r m : Byte} {bus : List BusAccess}
      (hbus : RespectsMap s { s with bus := bus }) : Effect i s ((State.compare { s with bus := bus } r m).finish i)
  | bitTest (hm : [.bit].contains i.mnemonic) {m : Byte} {bus : List BusAccess}
      (hbus : RespectsMap s { s with bus := bus }) : Effect i s ((bitTest (m, { s with bus := bus })).finish i)
  | writeBack (hm : [.inc, .dec].contains i.mnemonic) (hmode : (i.mode == .acc) = false) {ea : Word} {r : Byte}
      {bus : List BusAccess} (hbus : RespectsMap s { s with bus := bus }) :
      Effect i s ((writeBack ea r { s with bus := bus }).finish i)
  | shiftAt (hm : [.asl, .lsr, .rol, .ror].contains i.mnemonic) (hmode : (i.mode == .acc) = false) {ea : Word}
      {o : ShiftOut} {bus : List BusAccess} (hbus : RespectsMap s { s with bus := bus }) :
      Effect i s ((writeBack ea o.r { s with bus := bus, flagC := o.carry }).finish i)
  | shiftA (hm : [.asl, .lsr, .rol, .ror].contains i.mnemonic) (hmode : i.mode = .acc) {o : ShiftOut} :
      Effect i s ((shiftA o s).finish i)
  | setC (hm : [.clc, .sec].contains i.mnemonic) {v : Bool} : Effect i s (State.finish { s with flagC := v } i)
  | setD (hm : [.cld, .sed].contains i.mnemonic) {v : Bool} : Effect i s (State.finish { s with flagD := v } i)
  | setI (hm : [.cli, .sei].contains i.mnemonic) {v : Bool} : Effect i s (State.finish { s with flagI := v } i)
  | setV (hm : [.clv].contains i.mnemonic) {v : Bool} : Effect i s (State.finish { s with flagV := v } i)
  | txs (hm : [.txs].contains i.mnemonic) : Effect i s (State.finish { s with sp := s.x } i)
  | push (hm : [.pha, .php].contains i.mnemonic) (hmode : (i.mode == .acc) = false) {v : Byte} : Effect i s ((s.push v).finish i)
  | pla (hm : [.pla].contains i.mnemonic) : Effect i s ((Machine.loadA s.pull).finish i)
  | plp (hm : [.plp].contains i.mnemonic) : Effect i s (s.pullFlags.finish i)
  | jump (hm : [.jmp, .bcc, .bcs, .beq, .bmi, .bne, .bpl, .bvc, .bvs].contains i.mnemonic) {target : Word}
      {bus : List BusAccess} (hbus : RespectsMap s { s with bus := bus }) :
      Effect i s { s with bus := bus, pc := target }
  | call (hm : [.jsr].contains i.mnemonic) (hmode : (i.mode == .acc) = false) {hi lo : Byte} {target : Word} :
      Effect i s { (s.push hi).push lo with pc := target }
  | ret (hm : [.rts].contains i.mnemonic) {target : Word} : Effect i s { s.pull.2.pull.2 with pc := target }
  | brk (hm : [.brk].contains i.mnemonic) (hmode : (i.mode == .acc) = false) {ret : Word} {b : Bool} :
      Effect i s { s.enterTrap ret b irqVector with flagB := true, flagI := s.flagI || s.params.brkSetsI }
  | nop (hm : [.nop].contains i.mnemonic) : Effect i s (s.finish i)
  | rti (hm : [.rti].contains i.mnemonic) : Effect i s s.leaveTrap

namespace Effect

variable {i : Instr} {s u : State}

theorem of_loadA {o : Byte × State} (hm : [.lda, .txa, .tya, .and, .eor, .ora].contains i.mnemonic)
    (ho : Reads s o.2) : Effect i s ((Machine.loadA o).finish i) := by
  obtain ⟨v, u⟩ := o
  obtain ⟨hbus⟩ := ho
  exact .loadA hm hbus

theorem of_loadX {o : Byte × State} (hm : [.ldx, .tax, .tsx, .inx, .dex].contains i.mnemonic)
    (ho : Reads s o.2) : Effect i s ((Machine.loadX o).finish i) := by
  obtain ⟨v, u⟩ := o
  obtain ⟨hbus⟩ := ho
  exact .loadX hm hbus

theorem of_loadY {o : Byte × State} (hm : [.ldy, .tay, .iny, .dey].contains i.mnemonic)
    (ho : Reads s o.2) : Effect i s ((Machine.loadY o).finish i) := by
  obtain ⟨v, u⟩ := o
  obtain ⟨hbus⟩ := ho
  exact .loadY hm hbus

theorem of_bitTest {o : Byte × State} (hm : [.bit].contains i.mnemonic)
    (ho : Reads s o.2) : Effect i s ((Machine.bitTest o).finish i) := by
  obtain ⟨v, u⟩ := o
  obtain ⟨hbus⟩ := ho
  exact .bitTest hm hbus

theorem of_store (hm : [.sta, .stx, .sty].contains i.mnemonic) (hmode : (i.mode == .acc) = false) (hu : Reads s u) {ea : Word}
    {v : Byte} : Effect i s ((u.store ea v).finish i) := by
  obtain ⟨hbus⟩ := hu
  exact .store hm hmode hbus

theorem of_compare (hm : [.cmp, .cpx, .cpy].contains i.mnemonic) (hu : Reads s u) {r m : Byte} :
    Effect i s ((u.compare r m).finish i) := by
  obtain ⟨hbus⟩ := hu
  exact .compare hm hbus

theorem of_jump (hm : [.jmp, .bcc, .bcs, .beq, .bmi, .bne, .bpl, .bvc, .bvs].contains i.mnemonic) (hu : Reads s u)
    {target : Word} : Effect i s { u with pc := target } := by
  obtain ⟨hbus⟩ := hu
  exact .jump hm hbus

theorem of_writeBack (hm : [.inc, .dec].contains i.mnemonic) (hmode : (i.mode == .acc) = false) (hu : Reads s u)
    {ea : Word} {r : Byte} : Effect i s ((Machine.writeBack ea r u).finish i) := by
  obtain ⟨hbus⟩ := hu
  exact .writeBack hm hmode hbus

theorem of_shiftAt (hm : [.asl, .lsr, .rol, .ror].contains i.mnemonic) (hmode : (i.mode == .acc) = false) {ea : Word}
    {o : ShiftOut} : Effect i s ((Machine.shiftAt ea o s).finish i) :=
  .shiftAt hm hmode (.touch s ea)

end Effect

/-- An instruction that D does not concern answers a next state, in one of these ways. -/
theorem exec_effect {i : Instr} (h : ¬ UsesDecimalMode i) (s : State) : ∃ t, exec i s = .next t ∧ Effect i s t := by
  cases i with
  | adcImm | adcZp | adcZpx | adcAbs | adcAbx | adcAby | adcIzx | adcIzy => exact absurd (.inl rfl) h
  | sbcImm | sbcZp | sbcZpx | sbcAbs | sbcAbx | sbcAby | sbcIzx | sbcIzy => exact absurd (.inr rfl) h
  | ldaImm | txa | tya | andImm | eorImm | oraImm => exact ⟨_, rfl, .of_loadA rfl (.refl s)⟩
  | ldaZp | ldaZpx | ldaAbs | ldaAbx | ldaAby | andZp | andZpx | andAbs | andAbx | andAby
  | eorZp | eorZpx | eorAbs | eorAbx | eorAby | oraZp | oraZpx | oraAbs | oraAbx | oraAby =>
    exact ⟨_, rfl, .of_loadA rfl (.load s _)⟩
  | ldaIzx | andIzx | eorIzx | oraIzx => exact ⟨_, rfl, .of_loadA rfl (.loadAt_eaIzx _ s)⟩
  | ldaIzy | andIzy | eorIzy | oraIzy => exact ⟨_, rfl, .of_loadA rfl (.loadAt_eaIzy _ s)⟩
  | ldxImm | tax | tsx | inx | dex => exact ⟨_, rfl, .of_loadX rfl (.refl s)⟩
  | ldxZp | ldxZpy | ldxAbs | ldxAby => exact ⟨_, rfl, .of_loadX rfl (.load s _)⟩
  | ldyImm | tay | iny | dey => exact ⟨_, rfl, .of_loadY rfl (.refl s)⟩
  | ldyZp | ldyZpx | ldyAbs | ldyAbx => exact ⟨_, rfl, .of_loadY rfl (.load s _)⟩
  | staZp | staZpx | staAbs | staAbx | staAby | stxZp | stxZpy | stxAbs | styZp | styZpx | styAbs =>
    exact ⟨_, rfl, .of_store rfl rfl (.refl s)⟩
  | staIzx => exact ⟨_, rfl, .of_store rfl rfl (.eaIzx _ s)⟩
  | staIzy => exact ⟨_, rfl, .of_store rfl rfl (.eaIzy _ s)⟩
  | cmpImm | cpxImm | cpyImm => exact ⟨_, rfl, .of_compare rfl (.refl s)⟩
  | cmpZp | cmpZpx | cmpAbs | cmpAbx | cmpAby | cpxZp | cpxAbs | cpyZp | cpyAbs =>
    exact ⟨_, rfl, .of_compare rfl (.load s _)⟩
  | cmpIzx => exact ⟨_, rfl, .of_compare rfl (.loadAt_eaIzx _ s)⟩
  | cmpIzy => exact ⟨_, rfl, .of_compare rfl (.loadAt_eaIzy _ s)⟩
  | bitZp | bitAbs => exact ⟨_, rfl, .of_bitTest rfl (.load s _)⟩
  | incZp | incZpx | incAbs | incAbx | decZp | decZpx | decAbs | decAbx => 
    exact ⟨_, rfl, .of_writeBack rfl rfl (.touch s _)⟩
  | aslZp | aslZpx | aslAbs | aslAbx | lsrZp | lsrZpx | lsrAbs | lsrAbx
  | rolZp | rolZpx | rolAbs | rolAbx | rorZp | rorZpx | rorAbs | rorAbx => exact ⟨_, rfl, .of_shiftAt rfl rfl⟩
  | aslAcc | lsrAcc | rolAcc | rorAcc => exact ⟨_, rfl, .shiftA rfl rfl⟩
  | clc | sec => exact ⟨_, rfl, .setC rfl⟩
  | cld | sed => exact ⟨_, rfl, .setD rfl⟩
  | cli | sei => exact ⟨_, rfl, .setI rfl⟩
  | clv => exact ⟨_, rfl, .setV rfl⟩
  | txs => exact ⟨_, rfl, .txs rfl⟩
  | pha | php => exact ⟨_, rfl, .push rfl rfl⟩
  | pla => exact ⟨_, rfl, .pla rfl⟩
  | plp => exact ⟨_, rfl, .plp rfl⟩
  | jmpAbs => exact ⟨_, rfl, .of_jump rfl (.refl s)⟩
  | jmpInd => exact ⟨_, rfl, .of_jump rfl (.indirectTarget _ s)⟩
  | bcc | bcs | beq | bmi | bne | bpl | bvc | bvs => exact ⟨_, next_branch _ _ s, .of_jump rfl (.refl s)⟩
  | jsr => exact ⟨_, rfl, .call rfl rfl⟩
  | rts => exact ⟨_, rfl, .ret rfl⟩
  | brk => exact ⟨_, rfl, .brk rfl rfl⟩
  | nop => exact ⟨_, rfl, .nop rfl⟩
  | rti => exact ⟨_, rfl, .rti rfl⟩

/-! ### Addition and subtraction in and out of decimal mode (R145) -/

/-- ADC and SBC answer what the decimal-mode gate makes of an outcome, after the reads of their operand; these do not
depend on D. -/
def GatesOutcome (i : Instr) (s : State) : Prop :=
  ∃ bus, RespectsMap s { s with bus := bus } ∧ ∀ d, ∃ r, exec i { s with flagD := d } =
    decimalGate r (BitVec.ofNat 16 i.length) { s with flagD := d, bus := bus }

theorem GatesOutcome.of_operand {i : Instr} {s : State} {o : State → Byte × State}
    (hexec : ∀ t, ∃ r, exec i t = decimalGate r (BitVec.ofNat 16 i.length) (o t).2) (hreads : Reads s (o s).2)
    (hD : ∀ d, (o { s with flagD := d }).2 = { s with flagD := d, bus := (o s).2.bus }) : GatesOutcome i s :=
  ⟨_, hreads.respectsMap, fun d => hD d ▸ hexec _⟩

theorem exec_decimal {i : Instr} (h : UsesDecimalMode i) (s : State) : GatesOutcome i s := by
  cases i with
  | adcImm b | sbcImm b => exact .of_operand (o := fun t => (b, t)) (fun _ => ⟨_, rfl⟩) (.refl s) fun _ => rfl
  | adcZp b | sbcZp b =>
    exact .of_operand (o := fun t => t.load (eaZp b)) (fun _ => ⟨_, rfl⟩) (.load s _) fun _ => rfl
  | adcZpx b | sbcZpx b =>
    exact .of_operand (o := fun t => t.load (eaZpx b t)) (fun _ => ⟨_, rfl⟩) (.load s _) fun _ => rfl
  | adcAbs w | sbcAbs w => exact .of_operand (o := fun t => t.load w) (fun _ => ⟨_, rfl⟩) (.load s _) fun _ => rfl
  | adcAbx w | sbcAbx w =>
    exact .of_operand (o := fun t => t.load (eaAbx w t)) (fun _ => ⟨_, rfl⟩) (.load s _) fun _ => rfl
  | adcAby w | sbcAby w =>
    exact .of_operand (o := fun t => t.load (eaAby w t)) (fun _ => ⟨_, rfl⟩) (.load s _) fun _ => rfl
  | adcIzx b | sbcIzx b =>
    exact .of_operand (o := fun t => loadAt (eaIzx b t)) (fun _ => ⟨_, rfl⟩) (.loadAt_eaIzx b s) fun _ => rfl
  | adcIzy b | sbcIzy b =>
    exact .of_operand (o := fun t => loadAt (eaIzy b t)) (fun _ => ⟨_, rfl⟩) (.loadAt_eaIzy b s) fun _ => rfl
  | _ => rcases h with h | h <;> cases h

/-- Whatever an instruction leads to is one of these effects. -/
theorem effect_of_exec {i : Instr} {s t : State} (h : exec i s = .next t) : Effect i s t := by
  by_cases hi : UsesDecimalMode i
  · obtain ⟨bus, hbus, hgate⟩ := exec_decimal hi s
    obtain ⟨r, hr⟩ := hgate s.flagD
    have hm : [.adc, .sbc].contains i.mnemonic := by
      rcases hi with hi | hi <;> rw [hi] <;> rfl
    rcases decimalGate_cases (hr.symm.trans h) with ⟨-, rfl⟩ | ⟨-, -, rfl⟩
    · exact .sum hm hbus
    · exact .unstatedSum hm hbus
  · obtain ⟨t', ht', he⟩ := exec_effect hi s
    rw [Host.Outcome.next.inj (h.symm.trans ht')]
    exact he

end Sys2Proof.Machine
end

section
/-! PROOFS. What every step keeps (`10_state.md` sections 2 to 6, `20_memory.md`, `60_exceptions.md`): O48, O60 and
O50 to O53. -/

namespace Sys2Proof.Machine

/-! ### What an effect keeps -/

/-- Every way of working respects the memory map: it reads, then stores, then updates registers. -/
theorem Effect.respectsMap {i : Instr} {s t : State} (h : Effect i s t) : RespectsMap s t := by
  cases h with
  | loadA _ hbus | loadX _ hbus | loadY _ hbus | sum _ hbus | unstatedSum _ hbus | compare _ hbus | bitTest _ hbus
  | jump _ hbus => exact hbus.congr rfl rfl rfl
  | store _ _ hbus | writeBack _ _ hbus | shiftAt _ _ hbus =>
    exact (hbus.trans (.store _ _ _)).congr rfl rfl rfl
  | shiftA | setC | setD | setI | setV | txs | nop => exact (RespectsMap.refl s).congr rfl rfl rfl
  | push => exact (RespectsMap.push s _).congr rfl rfl rfl
  | pla | plp => exact (RespectsMap.pull s).congr rfl rfl rfl
  | call => exact (RespectsMap.push_push s _ _).congr rfl rfl rfl
  | ret => exact ((RespectsMap.pull s).trans (.pull _)).congr rfl rfl rfl
  | @brk _ _ ret b => exact (RespectsMap.enterTrap s ret b irqVector).congr rfl rfl rfl
  | rti => exact RespectsMap.leaveTrap s

/-- No way of working touches a line or the NMI latch. -/
theorem Effect.lines {i : Instr} {s t : State} (h : Effect i s t) :
    t.irqLine = s.irqLine ∧ t.nmiLine = s.nmiLine ∧ t.resetLine = s.resetLine ∧ t.nmiPending = s.nmiPending := by
  cases h with
  | brk | rti => simp
  | _ => exact ⟨rfl, rfl, rfl, rfl⟩

/-! ### What a step keeps -/

theorem RespectsMap.enterInterrupt (s : State) (vector : Word) : RespectsMap s (s.enterInterrupt vector) :=
  (RespectsMap.enterTrap s s.pc false vector).congr rfl rfl rfl

/-- What the boundary serves respects the memory map. -/
theorem boundaryEvent_respectsMap {s t : State} (h : s.boundaryEvent = some t) : RespectsMap s t := by
  obtain ⟨-, rfl⟩ | ⟨-, -, rfl⟩ | ⟨-, -, -, -, rfl⟩ := State.boundaryEvent_cases h
  · exact (RespectsMap.enterVector s resetVector).congr rfl rfl rfl
  · have hlatch : RespectsMap s { s with nmiPending := false } := (RespectsMap.refl s).congr rfl rfl rfl
    exact hlatch.trans (.enterInterrupt _ nmiVector)
  · exact .enterInterrupt s irqVector

/-- What the boundary serves leaves the lines alone and raises no NMI. -/
theorem boundaryEvent_lines {s t : State} (h : s.boundaryEvent = some t) :
    t.irqLine = s.irqLine ∧ t.nmiLine = s.nmiLine ∧ t.resetLine = s.resetLine ∧
      (s.nmiPending = false → t.nmiPending = false) := by
  obtain ⟨-, rfl⟩ | ⟨-, -, rfl⟩ | ⟨-, -, -, -, rfl⟩ := State.boundaryEvent_cases h
  · simp
  · simp
  · simp

/-- A fetch only reads (R54, R58). -/
theorem fetch_reads {s u : State} {i : Instr} (h : fetch s = .ok (i, u)) : Reads s u := by
  simp only [fetch] at h
  split at h
  · cases h
    exact .load s _
  · cases h
    exact .touch_touch s _ _
  · cases h
    exact (Reads.touch_touch s _ _).trans (.load _ _)
  · exact absurd h (by simp)

/-- Every step respects the memory map, boundary events included. -/
theorem step_respectsMap {s t : State} (h : step s = .next t) : RespectsMap s t := by
  rcases step_cases h with hb | ⟨-, i, v, u, hfetch, hexec, rfl⟩
  · exact boundaryEvent_respectsMap hb
  · obtain ⟨hv⟩ := fetch_reads hfetch
    exact (hv.trans (effect_of_exec hexec).respectsMap).congr rfl rfl rfl

/-- Every step leaves the lines alone and raises no NMI. -/
theorem step_lines {s t : State} (h : step s = .next t) :
    t.irqLine = s.irqLine ∧ t.nmiLine = s.nmiLine ∧ t.resetLine = s.resetLine ∧
      (s.nmiPending = false → t.nmiPending = false) := by
  rcases step_cases h with hb | ⟨-, i, v, u, hfetch, hexec, rfl⟩
  · exact boundaryEvent_lines hb
  · obtain ⟨hv⟩ := fetch_reads hfetch
    obtain ⟨hirq, hnmi, hreset, hpending⟩ := (effect_of_exec hexec).lines
    exact ⟨hirq, hnmi, hreset, hpending.trans⟩

/-- Settles O48: a step that respects the memory map writes memory by stores alone, which keep the form. -/
theorem everyStepKeepsCanonicalMemory : Obligations.EveryStepKeepsCanonicalMemory :=
  fun _ _ hs h => (step_respectsMap h).canonical hs

/-- Settles O49. -/
theorem resetMemoryIsCanonical : Obligations.ResetMemoryIsCanonical := Memory.wf_blank

/-- Settles O50. -/
theorem stepLeavesParametersAndLinesAlone : Obligations.StepLeavesParametersAndLinesAlone := by
  intro s t h
  obtain ⟨hirq, hnmi, hreset, hpending⟩ := step_lines h
  obtain ⟨new, hnew, -⟩ := (step_respectsMap h).recorded
  exact ⟨(step_respectsMap h).params, hirq, hnmi, hreset, hpending, new, hnew.symm⟩

/-- What is behind an address under a map of at least one region: its first region decides if it holds the address. -/
theorem MemMap_kindAt_cons (r : Region) (m : MemMap) (addr : Word) :
    MemMap.kindAt (r :: m) addr =
      if r.first.toNat ≤ addr.toNat ∧ addr.toNat ≤ r.last.toNat then r.kind else m.kindAt addr := by
  by_cases h : r.first.toNat ≤ addr.toNat ∧ addr.toNat ≤ r.last.toNat
  · simp [MemMap.kindAt, Region.holds, h]
  · have hr : r.holds addr = false := by simpa [Region.holds] using h
    rw [if_neg h, MemMap.kindAt, MemMap.kindAt, List.find?_cons_of_neg (by simp [hr])]

/-- Settles O60: the three kinds of access, the two ways a map is read, and the step. -/
theorem everyStepRespectsTheMemoryMap : Obligations.EveryStepRespectsTheMemoryMap := by
  intro s
  refine ⟨fun addr v => ⟨fun hk => ?ram, fun hk => ?rom, fun hk => ?device⟩, fun hempty addr => ?empty,
    fun r m addr hcons => ?cons, fun t h => ?step⟩
  case ram =>
    have hne : s.kindAt addr ≠ .device := by simp [hk]
    exact ⟨State.read_memory hne, State.touch_memory hne, State.store_ram hk v⟩
  case rom =>
    have hne : s.kindAt addr ≠ .device := by simp [hk]
    exact ⟨State.read_memory hne, State.touch_memory hne, State.store_rom hk v⟩
  case device => exact ⟨State.read_device hk, State.touch_device hk, State.store_device hk v⟩
  case empty =>
    rw [State.kindAt, hempty]
    rfl
  case cons => rw [State.kindAt, hcons, MemMap_kindAt_cons]
  case step => exact ⟨(step_respectsMap h).fixed, (step_respectsMap h).recorded⟩

/-! ### Which instructions write what (R10 to R14, R20 to R31, R52)

For each register and flag, the effects that write it are those of instructions the table lists; every other effect
leaves it as it is. -/

theorem mem_of_contains {L L' : List Mnemonic} {m : Mnemonic} (h : L.contains m) (hsub : L ⊆ L') : m ∈ L' :=
  hsub (List.contains_iff_mem.mp h)

/-- Settles O51, column by column of R31's table. -/
theorem flagEffectsTable : Obligations.FlagEffectsTable := by
  intro i s t h
  have he := effect_of_exec h
  refine ⟨fun hw => ?c, fun hw => ?zn, fun hw => ?i, fun hw => ?d, fun hw => ?b, fun hw => ?v, fun hi => ?brk,
    fun hi => ?pulled⟩
  case c =>
    cases he with
    | sum hm | unstatedSum hm | compare hm | shiftAt hm | shiftA hm | setC hm | plp hm | rti hm =>
      exact absurd (mem_of_contains hm (by decide)) hw
    | brk => simp
    | _ => rfl
  case zn =>
    cases he with
    | loadA hm | loadX hm | loadY hm | sum hm | unstatedSum hm | compare hm | bitTest hm | writeBack hm | shiftAt hm
    | shiftA hm | pla hm | plp hm | rti hm => exact absurd (mem_of_contains hm (by decide)) hw
    | brk => simp
    | _ => exact ⟨rfl, rfl⟩
  case i =>
    cases he with
    | setI hm | plp hm | brk hm | rti hm => exact absurd (mem_of_contains hm (by decide)) hw
    | _ => rfl
  case d =>
    cases he with
    | setD hm | plp hm | rti hm => exact absurd (mem_of_contains hm (by decide)) hw
    | brk => simp
    | _ => rfl
  case b =>
    cases he with
    | plp hm | brk hm | rti hm => exact absurd (mem_of_contains hm (by decide)) hw
    | _ => rfl
  case v =>
    cases he with
    | sum hm | unstatedSum hm | bitTest hm | setV hm | plp hm | rti hm =>
      exact absurd (mem_of_contains hm (by decide)) hw
    | brk => simp
    | _ => rfl
  case brk =>
    cases i with
    | brk =>
      obtain rfl : _ = t := Host.Outcome.next.inj h
      exact ⟨rfl, rfl⟩
    | _ => cases hi
  case pulled =>
    cases i with
    | plp | rti =>
      obtain rfl : _ = t := Host.Outcome.next.inj h
      exact ⟨rfl, rfl, rfl, rfl, rfl, rfl, rfl⟩
    | _ => rcases hi with hi | hi <;> cases hi

/-- Settles O52, column by column. -/
theorem registerWritersTable : Obligations.RegisterWritersTable := by
  intro i s t h
  have he := effect_of_exec h
  refine ⟨fun hw hmode => ?a, fun hw => ?x, fun hw => ?y, fun hw => ?sp, fun hw => ?mem, fun hw => ?pc⟩
  case a =>
    cases he with
    | loadA hm | sum hm | unstatedSum hm | pla hm => exact absurd (mem_of_contains hm (by decide)) hw
    | shiftA _ hacc => exact absurd hacc hmode
    | brk | rti => simp
    | _ => rfl
  case x =>
    cases he with
    | loadX hm => exact absurd (mem_of_contains hm (by decide)) hw
    | brk | rti => simp
    | _ => rfl
  case y =>
    cases he with
    | loadY hm => exact absurd (mem_of_contains hm (by decide)) hw
    | brk | rti => simp
    | _ => rfl
  case sp =>
    cases he with
    | txs hm | push hm | pla hm | plp hm | call hm | ret hm | brk hm | rti hm =>
      exact absurd (mem_of_contains hm (by decide)) hw
    | _ => rfl
  case mem =>
    cases he with
    | store hm hmode | writeBack hm hmode | shiftAt hm hmode | push hm hmode | call hm hmode | brk hm hmode =>
      rcases hw with hw | hacc
      · exact absurd (mem_of_contains hm (by decide)) hw
      · exact absurd hacc (beq_eq_false_iff_ne.mp hmode)
    | rti => simp
    | _ => rfl
  case pc =>
    cases he with
    | jump hm | call hm | ret hm | brk hm | rti hm => exact absurd (mem_of_contains hm (by decide)) hw
    | _ => rfl

end Sys2Proof.Machine
end

section
/-! PROOFS. Subtraction and decimal mode (`43_arithmetic.md` R145, R148): O9, O11, O12, O13 and O53. -/

namespace Sys2Proof.Machine

/-! ### The decimal-mode gate over the instruction set (R145) -/

theorem decimalGate_refuse {s : State} (hd : s.flagD = true) (hm : s.params.decimalMode = .refuse) (r : AddOut)
    (len : Word) : decimalGate r len s = .refused .decimalModeNotSpecified := by
  simp [decimalGate, hd, hm]

theorem decimalGate_bcd {s : State} (hd : s.flagD = true) (hm : s.params.decimalMode = .bcd) (r : AddOut)
    (len : Word) : decimalGate r len s = .next (s.setUnstatedSum.advance len) := by
  simp [decimalGate, hd, hm]

/-- The gate lets every outcome pass but those R145 has refused. -/
theorem exists_decimalGate_next {s : State} (h : ¬ (s.flagD = true ∧ s.params.decimalMode = .refuse)) (r : AddOut)
    (len : Word) : ∃ t, decimalGate r len s = .next t := by
  cases hd : s.flagD with
  | false => exact ⟨_, decimalGate_of_binary (.inl hd) r len⟩
  | true =>
    cases hm : s.params.decimalMode with
    | refuse => exact absurd ⟨hd, hm⟩ h
    | binary => exact ⟨_, decimalGate_of_binary (.inr hm) r len⟩
    | bcd => exact ⟨_, decimalGate_bcd hd hm r len⟩

/-- Under DECIMAL_MODE = REFUSE with D = 1, ADC and SBC are refused. -/
theorem exec_of_decimalRefused {i : Instr} {s : State} (h : DecimalRefused i s) :
    exec i s = .refused .decimalModeNotSpecified := by
  obtain ⟨hi, hd, hm⟩ := h
  obtain ⟨bus, -, hgate⟩ := exec_decimal hi s
  obtain ⟨r, hr⟩ := hgate s.flagD
  exact hr.trans (decimalGate_refuse (s := { s with bus := bus }) hd hm r _)

/-- In every other case an instruction answers a next state. -/
theorem exists_exec_next {i : Instr} {s : State} (h : ¬ DecimalRefused i s) : ∃ t, exec i s = .next t := by
  by_cases hi : UsesDecimalMode i
  · obtain ⟨bus, -, hgate⟩ := exec_decimal hi s
    obtain ⟨r, hr⟩ := hgate s.flagD
    obtain ⟨t, ht⟩ := exists_decimalGate_next (s := { s with bus := bus }) (fun hd => h ⟨hi, hd⟩) r _
    exact ⟨t, hr.trans ht⟩
  · obtain ⟨t, ht, -⟩ := exec_effect hi s
    exact ⟨t, ht⟩

/-- Settles O53: the two cases exclude each other, since no answer is both a next state and a refusal. -/
theorem everyInstructionCompletesUnlessDecimalIsRefused :
    Obligations.EveryInstructionCompletesUnlessDecimalIsRefused := by
  intro i s
  refine ⟨⟨exists_exec_next, fun ⟨t, ht⟩ h => ?_⟩, exec_of_decimalRefused, fun hr => ?_⟩
  · cases ht.symm.trans (exec_of_decimalRefused h)
  · by_contra h
    obtain ⟨t, ht⟩ := exists_exec_next h
    cases ht.symm.trans hr

/-- Settles O12. -/
theorem decimalModeRefusesUnderRefuse : Obligations.DecimalModeRefusesUnderRefuse :=
  fun _ _ hd hm => ⟨fun hi => exec_of_decimalRefused ⟨hi, hd, hm⟩, fun hi => exists_exec_next fun h => hi h.1⟩

/-- Settles O13: the reads are the same with D = 0, where the gate is open; with D = 1 it gives the free values. -/
theorem decimalModeRunsOnFreeValues : Obligations.DecimalModeRunsOnFreeValues := by
  intro i s hi hd hm
  obtain ⟨bus, -, hgate⟩ := exec_decimal hi s
  obtain ⟨r, hclear⟩ := hgate false
  obtain ⟨r', hset⟩ := hgate s.flagD
  exact ⟨_, hclear.trans (decimalGate_of_binary (.inl rfl) r _),
    hset.trans (decimalGate_bcd (s := { s with bus := bus }) hd hm r' _)⟩

/-! ### The subtraction in numbers (R148) -/

theorem xor_ones_eq_not (m : Byte) : m ^^^ 0xFF = ~~~m := BitVec.xor_allOnes

/-- The complement negates and subtracts one, in both readings of a byte. -/
theorem not_toNat_byte (m : Byte) : (~~~m).toNat = 255 - m.toNat := BitVec.toNat_not

theorem not_toInt_byte (m : Byte) : (~~~m).toInt = -m.toInt - 1 := by
  have hm := m.isLt
  simp only [BitVec.toInt_eq_toNat_cond, not_toNat_byte]
  omega

theorem subCore_r (a m : Byte) (c : Bool) : (subCore a m c).r = (addCore a (~~~m) c).r := by
  have ha := a.isLt
  have hm := m.isLt
  have hc := c.toNat_le
  apply BitVec.eq_of_toNat_eq
  simp only [addCore_r_toNat, not_toNat_byte, subCore, BitVec.toNat_ofInt]
  omega

theorem subCore_carry (a m : Byte) (c : Bool) : (subCore a m c).carry = (addCore a (~~~m) c).carry := by
  have hm := m.isLt
  have hc := c.toNat_le
  simp only [subCore, addCore, not_toNat_byte, decide_eq_decide]
  omega

/-- In sign bits: the two signs differ, and the result has the second. -/
theorem subCore_overflow (a m : Byte) (c : Bool) : (subCore a m c).overflow = (addCore a (~~~m) c).overflow := by
  have signs : ∀ p q r : Bool, ((p ^^ q) && (p ^^ r)) = ((p ^^ r) && (!q ^^ r)) := by decide
  calc (subCore a m c).overflow
      = ((a.msb ^^ m.msb) && (a.msb ^^ (subCore a m c).r.msb)) := by
        simp only [subCore, and_signBit_bne_zero, BitVec.msb_and, BitVec.msb_xor]
    _ = ((a.msb ^^ (addCore a (~~~m) c).r.msb) && (!m.msb ^^ (addCore a (~~~m) c).r.msb)) := by
        rw [subCore_r, signs]
    _ = (addCore a (~~~m) c).overflow := by
        simp only [addCore, and_signBit_bne_zero, BitVec.msb_and, BitVec.msb_xor, BitVec.msb_not,
          Nat.zero_lt_succ, decide_true, Bool.true_and]

theorem AddOut.eq_of_fields {o p : AddOut} (hr : o.r = p.r) (hc : o.carry = p.carry) (hv : o.overflow = p.overflow) :
    o = p := by
  cases o
  cases p
  simp_all

/-- Subtracting with a borrow is adding the complement with the carry: the two differ by 256, which a byte drops. -/
theorem subCore_eq_addCore (a m : Byte) (c : Bool) : subCore a m c = addCore a (~~~m) c :=
  AddOut.eq_of_fields (subCore_r a m c) (subCore_carry a m c) (subCore_overflow a m c)

/-- Settles O11: what AddCore of the complement gives (R147), in terms of the byte subtracted. -/
theorem subtractionIsAdditionOfComplement : Obligations.SubtractionIsAdditionOfComplement := by
  intro a m c
  have ha := a.isLt
  have hm := m.isLt
  have hc := c.toNat_le
  rw [xor_ones_eq_not, subCore_eq_addCore]
  refine ⟨rfl, ?_, ?_, ?_⟩
  · rw [addCore_r_toNat, not_toNat_byte]
    omega
  · rw [addCore_carry_iff, not_toNat_byte]
    omega
  · rw [addCore_overflow_iff_toInt, not_toInt_byte]
    omega

/-! ### SBC (R148): encoding, cycles, effect -/

/-- SBC outside decimal mode: the subtraction from A with C as the instruction found them. -/
theorem subA_operand {s : State} {o : Byte × State} (ho : o.2 = { s with bus := o.2.bus })
    (h : s.flagD = false ∨ s.params.decimalMode = .binary) (len : Word) :
    subA o len =
      let r := subCore s.a o.1 s.flagC
      .next { o.2 with
        a := r.r, flagC := r.carry, flagV := r.overflow, flagZ := r.r == 0, flagN := r.r.getLsbD 7,
        pc := s.pc + len } := by
  have ha : o.2.a = s.a := by rw [ho]
  have hc : o.2.flagC = s.flagC := by rw [ho]
  rw [subA, ha, hc]
  exact decimalGate_operand ho h _ len

/-- Settles O9: in each mode the effect is one subtraction of the mode's operand through the open decimal gate. -/
theorem sbcSubtractsWithBorrow : Obligations.SbcSubtractsWithBorrow := by
  intro s b w h
  refine ⟨?sbcImm, ?sbcZp, ?sbcZpx, ?sbcAbs, ?sbcAbx, ?sbcAby, ?sbcIzx, ?sbcIzy⟩
  case sbcImm => exact ⟨rfl, rfl, subA_operand (o := (b, s)) rfl h 2⟩
  case sbcZp => exact ⟨rfl, rfl, subA_operand (s.load_snd_eq (eaZp b)) h 2⟩
  case sbcZpx => exact ⟨rfl, rfl, subA_operand (s.load_snd_eq (eaZpx b s)) h 2⟩
  case sbcAbs => exact ⟨rfl, rfl, subA_operand (s.load_snd_eq w) h 3⟩
  case sbcAbx => exact ⟨rfl, rfl, subA_operand (s.load_snd_eq (eaAbx w s)) h 3⟩
  case sbcAby => exact ⟨rfl, rfl, subA_operand (s.load_snd_eq (eaAby w s)) h 3⟩
  case sbcIzx => exact ⟨rfl, rfl, subA_operand (loadAt_eaIzx_snd_eq b s) h 2⟩
  case sbcIzy => exact ⟨rfl, rfl, subA_operand (loadAt_eaIzy_snd_eq b s) h 2⟩

end Sys2Proof.Machine
end

section
/-! PROOFS. Cycle counts (`70_reset_and_hazards.md` section 4, R290 to R293): O54 and O55. -/

namespace Sys2Proof.Machine

/-! ### The same state, and the same answer, later on the ghost count -/

/-- The state with `k` more cycles on the ghost count. -/
def State.later (s : State) (k : Nat) : State := { s with cycles := s.cycles + k }

/-- The same answer, from a state with `k` more cycles on the ghost count. -/
def laterResult (k : Nat) : Result → Result
  | .next t => .next (t.later k)
  | .fault f => .fault f
  | .refused r => .refused r

/-- The same operand, from a state with `k` more cycles on the ghost count. -/
def laterOperand {α : Type} (k : Nat) (o : α × State) : α × State := (o.1, o.2.later k)

/-! ### No shared operation sees the ghost count -/

section

variable (s : State) (k : Nat)

theorem State.load_later (addr : Word) : (s.later k).load addr = laterOperand k (s.load addr) := rfl

theorem State.store_later (addr : Word) (v : Byte) : (s.later k).store addr v = (s.store addr v).later k := rfl

theorem State.push_later (v : Byte) : (s.later k).push v = (s.push v).later k := rfl

theorem State.pull_later : (s.later k).pull = laterOperand k s.pull := rfl

theorem State.unpackP_later (v : Byte) : (s.later k).unpackP v = (s.unpackP v).later k := rfl

theorem State.call_later (v w : Byte) (target : Word) :
    ({ ((s.later k).push v).push w with pc := target } : State) = State.later { (s.push v).push w with pc := target } k := by
  rw [State.push_later, State.push_later]
  rfl

theorem State.leaveTrap_later : (s.later k).leaveTrap = s.leaveTrap.later k := by
  simp only [State.leaveTrap, State.pull_later, laterOperand, State.unpackP_later]
  rfl

theorem State.packP_later (b : Bool) : (s.later k).packP b = s.packP b := rfl

theorem State.enterVector_later (vector : Word) : (s.later k).enterVector vector = (s.enterVector vector).later k := rfl

theorem State.enterTrap_later (ret : Word) (b : Bool) (vector : Word) :
    (s.later k).enterTrap ret b vector = (s.enterTrap ret b vector).later k := by
  simp only [State.enterTrap, State.push_later, State.packP_later, State.enterVector_later]

theorem State.enterInterrupt_eq (vector : Word) :
    s.enterInterrupt vector =
      { s.enterTrap s.pc false vector with flagI := true, cycles := s.cycles + 7 } := rfl

theorem State.enterInterrupt_later (vector : Word) :
    (s.later k).enterInterrupt vector = (s.enterInterrupt vector).later k := by
  have hpc : (s.later k).pc = s.pc := rfl
  have hcycles : (s.later k).cycles + 7 = s.cycles + 7 + k := Nat.add_right_comm _ _ _
  rw [State.enterInterrupt_eq, State.enterInterrupt_eq, hpc, State.enterTrap_later, hcycles]
  rfl

theorem State.resetSequence_eq :
    s.resetSequence = { s.enterVector resetVector with flagI := true, nmiPending := false } := rfl

theorem State.resetSequence_later : (s.later k).resetSequence = s.resetSequence.later k := by
  rw [State.resetSequence_eq, State.resetSequence_eq, State.enterVector_later]
  rfl

theorem State.pointer_later (zp : Byte) : (s.later k).pointer zp = laterOperand k (s.pointer zp) := rfl

theorem eaIzx_later (zp : Byte) : eaIzx zp (s.later k) = laterOperand k (eaIzx zp s) := s.pointer_later k _

theorem eaIzy_later (zp : Byte) : eaIzy zp (s.later k) = laterOperand k (eaIzy zp s) := by
  rw [eaIzy, State.pointer_later]
  rfl

theorem incAt_later (ea : Word) : incAt ea (s.later k) = (incAt ea s).later k := rfl

theorem decAt_later (ea : Word) : decAt ea (s.later k) = (decAt ea s).later k := rfl

theorem shiftAt_later (ea : Word) (o : ShiftOut) : shiftAt ea o (s.later k) = (shiftAt ea o s).later k := rfl

/-- An instruction that loads its operand through a pointer. -/
theorem State.later_of_operand (ea : State → Word × State) (f : Byte × State → Result) {r r' : Result}
    (hr' : r' = f (loadAt (ea (s.later k)))) (hr : r = f (loadAt (ea s)))
    (hea : ea (s.later k) = laterOperand k (ea s))
    (hf : ∀ o, f (laterOperand k o) = laterResult k (f o)) : r' = laterResult k r := by
  rw [hr', hr, hea, ← hf]
  rfl

/-- An instruction that stores A through a pointer. -/
theorem State.later_of_store (ea : State → Word × State) {r r' : Result}
    (hr' : r' = .next ((storeAt (ea (s.later k)) s.a).advance 2)) (hr : r = .next ((storeAt (ea s) s.a).advance 2))
    (hea : ea (s.later k) = laterOperand k (ea s)) : r' = laterResult k r := by
  rw [hr', hr, hea]
  rfl

theorem branch_later (cond : Bool) (off : Byte) : branch cond off (s.later k) = (branch cond off s).later k := by
  cases cond with
  | true => rfl
  | false => rfl

theorem execBrk_later : execBrk (s.later k) = laterResult k (execBrk s) := by
  have htrap := s.enterTrap_later k (s.pc + BitVec.ofNat 16 s.params.brkPushOffset) (s.pushedB s.params.brkPushedB)
    irqVector
  have hret : (s.later k).pc + BitVec.ofNat 16 (s.later k).params.brkPushOffset =
      s.pc + BitVec.ofNat 16 s.params.brkPushOffset := rfl
  have hb : (s.later k).pushedB (s.later k).params.brkPushedB = s.pushedB s.params.brkPushedB := rfl
  rw [execBrk, execBrk, hret, hb, htrap]
  generalize s.enterTrap _ _ irqVector = t
  rfl

theorem decimalGate_later (r : AddOut) (len : Word) :
    decimalGate r len (s.later k) = laterResult k (decimalGate r len s) := by
  have hd : (s.later k).flagD = s.flagD := rfl
  have hm : (s.later k).params = s.params := rfl
  unfold decimalGate
  rw [hd, hm]
  cases s.flagD with
  | false => rfl
  | true => cases s.params.decimalMode <;> rfl

theorem addA_later (o : Byte × State) (len : Word) : addA (laterOperand k o) len = laterResult k (addA o len) :=
  decimalGate_later o.2 k _ len

theorem subA_later (o : Byte × State) (len : Word) : subA (laterOperand k o) len = laterResult k (subA o len) :=
  decimalGate_later o.2 k _ len

end

/-! ### No part of a step sees the ghost count -/

/-- An instruction's meaning takes nothing from the ghost count and leaves it as it is. -/
theorem exec_later (i : Instr) (s : State) (k : Nat) : exec i (s.later k) = laterResult k (exec i s) := by
  cases i with
  | adcImm b => exact addA_later k (b, s) 2
  | adcZp b => exact addA_later k (s.load (eaZp b)) 2
  | adcZpx b => exact addA_later k (s.load (eaZpx b s)) 2
  | adcAbs w => exact addA_later k (s.load w) 3
  | adcAbx w => exact addA_later k (s.load (eaAbx w s)) 3
  | adcAby w => exact addA_later k (s.load (eaAby w s)) 3
  | sbcImm b => exact subA_later k (b, s) 2
  | sbcZp b => exact subA_later k (s.load (eaZp b)) 2
  | sbcZpx b => exact subA_later k (s.load (eaZpx b s)) 2
  | sbcAbs w => exact subA_later k (s.load w) 3
  | sbcAbx w => exact subA_later k (s.load (eaAbx w s)) 3
  | sbcAby w => exact subA_later k (s.load (eaAby w s)) 3
  | ldaIzx b => exact s.later_of_operand k (eaIzx b) (fun o => .next ((loadA o).advance 2)) rfl rfl (eaIzx_later s k b) fun _ => rfl
  | ldaIzy b => exact s.later_of_operand k (eaIzy b) (fun o => .next ((loadA o).advance 2)) rfl rfl (eaIzy_later s k b) fun _ => rfl
  | andIzx b => exact s.later_of_operand k (eaIzx b) (fun o => .next ((andA o).advance 2)) rfl rfl (eaIzx_later s k b) fun _ => rfl
  | andIzy b => exact s.later_of_operand k (eaIzy b) (fun o => .next ((andA o).advance 2)) rfl rfl (eaIzy_later s k b) fun _ => rfl
  | eorIzx b => exact s.later_of_operand k (eaIzx b) (fun o => .next ((eorA o).advance 2)) rfl rfl (eaIzx_later s k b) fun _ => rfl
  | eorIzy b => exact s.later_of_operand k (eaIzy b) (fun o => .next ((eorA o).advance 2)) rfl rfl (eaIzy_later s k b) fun _ => rfl
  | oraIzx b => exact s.later_of_operand k (eaIzx b) (fun o => .next ((oraA o).advance 2)) rfl rfl (eaIzx_later s k b) fun _ => rfl
  | oraIzy b => exact s.later_of_operand k (eaIzy b) (fun o => .next ((oraA o).advance 2)) rfl rfl (eaIzy_later s k b) fun _ => rfl
  | cmpIzx b => exact s.later_of_operand k (eaIzx b) (fun o => .next ((compareA o).advance 2)) rfl rfl (eaIzx_later s k b) fun _ => rfl
  | cmpIzy b => exact s.later_of_operand k (eaIzy b) (fun o => .next ((compareA o).advance 2)) rfl rfl (eaIzy_later s k b) fun _ => rfl
  | adcIzx b => exact s.later_of_operand k (eaIzx b) (addA · 2) rfl rfl (eaIzx_later s k b) fun o => addA_later k o 2
  | adcIzy b => exact s.later_of_operand k (eaIzy b) (addA · 2) rfl rfl (eaIzy_later s k b) fun o => addA_later k o 2
  | sbcIzx b => exact s.later_of_operand k (eaIzx b) (subA · 2) rfl rfl (eaIzx_later s k b) fun o => subA_later k o 2
  | sbcIzy b => exact s.later_of_operand k (eaIzy b) (subA · 2) rfl rfl (eaIzy_later s k b) fun o => subA_later k o 2
  | staIzx b => exact s.later_of_store k (eaIzx b) rfl rfl (eaIzx_later s k b)
  | staIzy b => exact s.later_of_store k (eaIzy b) rfl rfl (eaIzy_later s k b)
  | incZp | incZpx | incAbs | incAbx =>
    exact congrArg (fun t => Host.Outcome.next (State.advance t _)) (incAt_later s k _)
  | decZp | decZpx | decAbs | decAbx =>
    exact congrArg (fun t => Host.Outcome.next (State.advance t _)) (decAt_later s k _)
  | aslZp | aslZpx | aslAbs | aslAbx | lsrZp | lsrZpx | lsrAbs | lsrAbx
  | rolZp | rolZpx | rolAbs | rolAbx | rorZp | rorZpx | rorAbs | rorAbx =>
    exact congrArg (fun t => Host.Outcome.next (State.advance t _)) (shiftAt_later s k _ _)
  | bcc | bcs | beq | bmi | bne | bpl | bvc | bvs => exact congrArg Host.Outcome.next (branch_later s k _ _)
  | jsr => exact congrArg Host.Outcome.next (s.call_later k _ _ _)
  | rti => exact congrArg Host.Outcome.next (s.leaveTrap_later k)
  | brk => exact execBrk_later s k
  | _ => rfl

theorem boundaryEvent_later (s : State) (k : Nat) :
    (s.later k).boundaryEvent = s.boundaryEvent.map (·.later k) := by
  have hreset : (s.later k).resetLine = s.resetLine := rfl
  have hnmi : (s.later k).nmiPending = s.nmiPending := rfl
  have hirq : ((s.later k).irqLine && !(s.later k).flagI) = (s.irqLine && !s.flagI) := rfl
  by_cases hr : s.resetLine = true
  · simp only [State.boundaryEvent, hreset, if_pos hr, State.resetSequence_later, Option.map_some]
  · by_cases hn : s.nmiPending = true
    · have hserved := State.enterInterrupt_later { s with nmiPending := false } k nmiVector
      simp only [State.boundaryEvent, hreset, hnmi, if_neg hr, if_pos hn, Option.map_some]
      exact congrArg some hserved
    · simp only [State.boundaryEvent, hreset, hnmi, hirq, if_neg hr, if_neg hn, State.enterInterrupt_later,
        apply_ite (Option.map fun t : State => t.later k), Option.map_some, Option.map_none]

theorem fetch_later (s : State) (k : Nat) : fetch (s.later k) = (fetch s).map (laterOperand k) := by
  have hop : (s.later k).read (s.later k).pc = s.read s.pc := rfl
  simp only [fetch, State.load_fst, hop]
  rcases lookupOpcode (s.read s.pc) with _ | ⟨i | f | f⟩ <;> rfl

theorem instrCycles_later (i : Instr) (s : State) (k : Nat) : instrCycles i (s.later k) = instrCycles i s := rfl

theorem chargeCycles_later (i : Instr) (s : State) (k : Nat) (r : Result) :
    chargeCycles i (s.later k) (laterResult k r) = laterResult k (chargeCycles i s r) := by
  cases r with
  | next t => exact congrArg (fun n => Host.Outcome.next { t with cycles := n }) (Nat.add_right_comm _ _ _)
  | fault f => rfl
  | refused r => rfl

theorem step_later (s : State) (k : Nat) : step (s.later k) = laterResult k (step s) := by
  unfold step
  rw [boundaryEvent_later, fetch_later]
  cases s.boundaryEvent with
  | some t => rfl
  | none =>
    cases fetch s with
    | error op => rfl
    | ok p =>
      obtain ⟨i, t⟩ := p
      exact (congrArg _ (exec_later i t k)).trans (chargeCycles_later i t k _)

/-- Settles O54. -/
theorem cyclesNeverInfluenceTheMachine : Obligations.CyclesNeverInfluenceTheMachine := by
  intro s k
  refine (step_later s k).trans ?_
  cases step s <;> rfl

/-! ### Page crossing (R292) -/

/-- Settles O55: adding an index below 256 changes the high byte exactly when the low byte carries, also where the
high byte wraps from 0xFF to 0x00. -/
theorem pageCrossingIsACarryOutOfTheLowByte : Obligations.PageCrossingIsACarryOutOfTheLowByte := by
  intro base index
  have hbase := base.isLt
  have hindex := index.isLt
  have hcrossed : pageCrossed base index = true ↔ 256 ≤ base.toNat % 256 + index.toNat := by
    rw [pageCrossed, decide_eq_true_iff, loByte_toNat]
  refine ⟨hcrossed, hcrossed.trans ?_⟩
  rw [ne_eq, ← BitVec.toNat_inj, hiByte_toNat, hiByte_toNat, BitVec.toNat_add, BitVec.toNat_setWidth]
  omega

end Sys2Proof.Machine
end

section
/-! PROOFS. Effective addresses, branch targets and the assembler's offsets (`30_encoding.md` sections 2 and 6): O29,
O30 and O58. -/

namespace Sys2Proof.Machine

/-! ### The addressing modes in numbers (R77 to R86) -/

theorem zext16_eq (v : Byte) : zext16 v = BitVec.ofNat 16 v.toNat := (BitVec.ofNat_toNat 16 v).symm

theorem zext16_add_one (v : Byte) : zext16 (v + 1) = BitVec.ofNat 16 ((v.toNat + 1) % 256) := by
  rw [zext16_eq, BitVec.toNat_add]
  rfl

/-- The pointer's word and the two reads that load it, with the places of its bytes as numbers (R49). -/
theorem State.pointer_eq (s : State) (b : Byte) :
    let z := BitVec.ofNat 16 b.toNat
    let z' := BitVec.ofNat 16 ((b.toNat + 1) % 256)
    s.pointer b = (joinBytes ((s.touch z).read z') (s.read z), (s.touch z).touch z') := by
  rw [← zext16_eq, ← zext16_add_one]
  rfl

/-- Settles O29: each sum is one addition of bytes or of words; the pointer's second byte is at a place of page zero
too. -/
theorem effectiveAddressesOfTheModes : Obligations.EffectiveAddressesOfTheModes := by
  intro s b w
  have hx : (b + s.x).toNat = (b.toNat + s.x.toNat) % 256 := BitVec.toNat_add b s.x
  have hwrap : (b.toNat + s.x.toNat + 1) % 256 = ((b.toNat + s.x.toNat) % 256 + 1) % 256 := by omega
  refine ⟨zext16_toNat b, ?zpx, ?zpy, ?abx, ?aby, ?pointer, ?izx, ?izy⟩
  case zpx => rw [eaZpx, zext16_toNat, hx]
  case zpy => rw [eaZpy, zext16_toNat, BitVec.toNat_add]
  case abx => rw [eaAbx, BitVec.toNat_add, zext16_toNat]
  case aby => rw [eaAby, BitVec.toNat_add, zext16_toNat]
  case pointer =>
    rw [State.pointer_eq]
    exact ⟨joinBytes_toNat _ _, rfl⟩
  case izx =>
    rw [eaIzx, State.pointer_eq, hx, hwrap]
    exact ⟨joinBytes_toNat _ _, rfl⟩
  case izy =>
    rw [eaIzy, State.pointer_eq]
    refine ⟨?_, rfl⟩
    rw [BitVec.toNat_add, joinBytes_toNat, zext16_toNat]

/-! ### Branch targets (R80) -/

theorem sext16_toInt (b : Byte) : (sext16 b).toInt = b.toInt := BitVec.toInt_signExtend_of_le (by decide)

/-- Settles O30. -/
theorem branchTargetIsSignedOffset : Obligations.BranchTargetIsSignedOffset := by
  intro s b
  have hb := sext16_toInt b
  have hpc := s.pc.isLt
  have hw := (sext16 b).isLt
  rw [BitVec.toInt_eq_toNat_cond] at hb
  simp only [branchTarget, BitVec.toNat_add, BitVec.reduceToNat]
  omega

/-! ### Branch offsets (R99) -/

/-- A distance is some byte's, read as two's complement, exactly if it fits a byte. -/
theorem sext16_loByte_eq_iff (d : Word) : sext16 (loByte d) = d ↔ -128 ≤ d.toInt ∧ d.toInt ≤ 127 := by
  rw [← BitVec.toInt_inj, sext16_toInt, BitVec.toInt_eq_toNat_cond, BitVec.toInt_eq_toNat_cond, loByte_toNat]
  have hd := d.isLt
  omega

theorem loByte_sext16 (b : Byte) : loByte (sext16 b) = b := by
  have hb := sext16_toInt b
  have h := b.isLt
  have hw := (sext16 b).isLt
  rw [BitVec.toInt_eq_toNat_cond, BitVec.toInt_eq_toNat_cond] at hb
  apply BitVec.eq_of_toNat_eq
  rw [loByte_toNat]
  omega

theorem branchOffset_eq_some_iff (addr target : Word) (b : Byte) :
    branchOffset addr target = some b ↔ sext16 b = target - (addr + 2) := by
  unfold branchOffset
  by_cases h : sext16 (loByte (target - (addr + 2))) = target - (addr + 2)
  · rw [if_pos h, Option.some.injEq]
    refine ⟨fun hb => hb ▸ h, fun hb => ?_⟩
    rw [← hb, loByte_sext16]
  · rw [if_neg h]
    refine ⟨fun hb => absurd hb (by simp), fun hb => absurd ?_ h⟩
    rw [← hb, loByte_sext16]

theorem branchOffset_eq_none_iff (addr target : Word) :
    branchOffset addr target = none ↔ ¬ sext16 (loByte (target - (addr + 2))) = target - (addr + 2) := by
  simp [branchOffset]

/-- Settles O58: the byte stored is the distance from the instruction after the branch, if that fits a byte. -/
theorem assemblerStoresBranchOffsets : Obligations.AssemblerStoresBranchOffsets := by
  intro addr target b
  refine ⟨?stored, ?rejected⟩
  case stored =>
    rw [branchOffset_eq_some_iff, eq_comm, sub_eq_iff_eq_add']
    rfl
  case rejected =>
    rw [branchOffset_eq_none_iff, sext16_loByte_eq_iff, sub_add_eq_sub_sub]
    generalize target - addr = d
    have hd := d.isLt
    simp only [BitVec.toInt_eq_toNat_cond, BitVec.toNat_sub, BitVec.reduceToNat]
    omega

end Sys2Proof.Machine
end

section
/-! PROOFS. Traps, interrupts and reset (`46_jumps_calls.md` R183 and R184, `49_system.md`, `60_exceptions.md`,
`70_reset_and_hazards.md` section 1): O26 to O28 and O33 to O40. -/

namespace Sys2Proof.Machine

/-! ### Taking a trap: three pushes, then PC from a vector (R242) -/

/-- The state after the three pushes of a trap. -/
def State.pushTrap (s : State) (ret : Word) (status : Byte) : State :=
  ((s.push (hiByte ret)).push (loByte ret)).push status

/-- Three pushes touch memory, the record of device accesses and S alone. -/
theorem State.pushTrap_eq (s : State) (ret : Word) (status : Byte) :
    s.pushTrap ret status =
      { s with mem := (s.pushTrap ret status).mem, bus := (s.pushTrap ret status).bus, sp := s.sp - 3 } := by
  have hsp : s.sp - 3 = s.sp - 1 - 1 - 1 := by bv_omega
  rw [hsp]
  exact congrArg
    (fun t : State =>
      { t with mem := (s.pushTrap ret status).mem, bus := (s.pushTrap ret status).bus, sp := s.sp - 1 - 1 - 1 })
    (s.push_push_eq (hiByte ret) (loByte ret))

/-- The three pushes are three stores, S counting down between them. -/
theorem stores_pushTrap (s : State) (ret : Word) (status : Byte) :
    Stores s (s.pushTrap ret status) (trapBytes s ret status) := by
  have hsp : s.sp - 2 = s.sp - 1 - 1 := by bv_omega
  rw [trapBytes, hsp]
  exact (stores_pushAddress s ret).append rfl (storesByte_push _ status)

/-- PC is loaded from the two bytes at the vector, after the pushes. -/
theorem State.enterTrap_vector (s : State) (ret : Word) (b : Bool) {v v' : Word} (hv : v + 1 = v') :
    s.enterTrap ret b v =
      { ((s.pushTrap ret (s.packP b)).touch v).touch v' with
        pc := joinBytes (((s.pushTrap ret (s.packP b)).touch v).read v') ((s.pushTrap ret (s.packP b)).read v) } := by
  subst hv
  rfl

theorem State.enterInterrupt_vector (s : State) {v v' : Word} (hv : v + 1 = v') :
    s.enterInterrupt v =
      (let u := s.pushTrap s.pc (s.packP false)
       { (u.touch v).touch v' with
         flagI := true, pc := joinBytes ((u.touch v).read v') (u.read v), cycles := s.cycles + 7 }) := by
  rw [State.enterInterrupt_eq, State.enterTrap_vector s s.pc false hv]

/-- That the NMI latch is cleared before the entry does not change what is pushed or read. -/
theorem State.enterInterrupt_vector_of_latched (s : State) {v v' : Word} (hv : v + 1 = v') :
    State.enterInterrupt { s with nmiPending := false } v =
      (let u := s.pushTrap s.pc (s.packP false)
       { (u.touch v).touch v' with
         flagI := true, nmiPending := false, cycles := s.cycles + 7,
         pc := joinBytes ((u.touch v).read v') (u.read v) }) := by
  rw [State.enterInterrupt_vector _ hv]
  rfl

theorem State.enterVector_eq (s : State) {v v' : Word} (hv : v + 1 = v') :
    s.enterVector v = { (s.touch v).touch v' with pc := joinBytes ((s.touch v).read v') (s.read v) } := by
  subst hv
  rfl

theorem irqVector_add_one : irqVector + 1 = 0xFFFF := by decide

theorem nmiVector_add_one : nmiVector + 1 = 0xFFFB := by decide

theorem resetVector_add_one : resetVector + 1 = 0xFFFD := by decide

/-! ### What is on the stack after a call or a trap (R183, R242) -/

theorem stackAddr_ne_sub {p q : Byte} (h : p ≠ q) : stackAddr p ≠ stackAddr q := fun e => h (stackAddr_inj.mp e)

/-- The return address lies at S and below, where both bytes are RAM. -/
theorem Stores.read_returnBytes {s t : State} {ret : Word} (h : Stores s t (returnBytes s ret))
    (h0 : s.kindAt (stackAddr s.sp) = .ram) (h1 : s.kindAt (stackAddr (s.sp - 1)) = .ram) :
    t.mem.read (stackAddr s.sp) = hiByte ret ∧ t.mem.read (stackAddr (s.sp - 1)) = loByte ret := by
  have hne : stackAddr (s.sp - 1) ≠ stackAddr s.sp := stackAddr_ne_sub (by bv_omega)
  rw [h.1, h.1, if_pos h0, if_pos h1]
  simp only [returnBytes, lastWritten, List.foldl_cons, List.foldl_nil, if_true, if_neg hne, and_self]

/-- The return address and the status lie at S and below, where all three bytes are RAM. -/
theorem Stores.read_trapBytes {s t : State} {ret : Word} {status : Byte} (h : Stores s t (trapBytes s ret status))
    (hram : StackIsRam s) :
    t.mem.read (stackAddr s.sp) = hiByte ret ∧ t.mem.read (stackAddr (s.sp - 1)) = loByte ret ∧
      t.mem.read (stackAddr (s.sp - 2)) = status := by
  obtain ⟨h0, h1, h2⟩ := hram
  have hne10 : stackAddr (s.sp - 1) ≠ stackAddr s.sp := stackAddr_ne_sub (by bv_omega)
  have hne20 : stackAddr (s.sp - 2) ≠ stackAddr s.sp := stackAddr_ne_sub (by bv_omega)
  have hne21 : stackAddr (s.sp - 2) ≠ stackAddr (s.sp - 1) := stackAddr_ne_sub (by bv_omega)
  rw [h.1, h.1, h.1, if_pos h0, if_pos h1, if_pos h2]
  simp only [trapBytes, returnBytes, List.cons_append, List.nil_append, lastWritten, List.foldl_cons, List.foldl_nil,
    if_true, if_neg hne10, if_neg hne20, if_neg hne21, and_self]

/-! ### The three instructions: encoding, cycles, effect -/

/-- Settles O26: the three pushes, PC from the vector, then B and I. -/
theorem brkTakesTheTrap : Obligations.BrkTakesTheTrap := by
  intro s
  refine ⟨rfl, rfl, _, State.pushTrap_eq s _ _, stores_pushTrap s _ _, ?_⟩
  have hexec : exec .brk s = execBrk s := rfl
  rw [hexec, execBrk, State.enterTrap_vector s _ _ irqVector_add_one]
  rfl

/-- Settles O27. -/
theorem nopOnlyAdvances : Obligations.NopOnlyAdvances := fun _ => ⟨rfl, rfl, rfl⟩

/-- Settles O28: three pulls, the flags from the first. -/
theorem rtiRestoresFlagsAndProgramCounter : Obligations.RtiRestoresFlagsAndProgramCounter := by
  intro s
  have h2 : s.sp + 2 = s.sp + 1 + 1 := by bv_omega
  have h3 : s.sp + 3 = s.sp + 1 + 1 + 1 := by bv_omega
  refine ⟨rfl, rfl, ?_⟩
  rw [h2, h3]
  exact congrArg Host.Outcome.next s.leaveTrap_eq

/-! ### What the boundary serves (R236, R240, R241, R274) -/

/-- Settles O39: the order of the three conditions in the boundary's definition. -/
theorem boundaryPriority : Obligations.BoundaryPriority := by
  intro s
  refine ⟨fun hr => ?reset, fun hr hn => ?nmi, fun hr hn hq hi => ?irq, fun hr hn hq => ?none, fun t ht => ?step⟩
  case reset => simp only [State.boundaryEvent, hr, if_true]
  case nmi => simp only [State.boundaryEvent, hr, hn, if_true, Bool.false_eq_true, if_false, nmiVector]
  case irq =>
    simp only [State.boundaryEvent, hr, hn, hq, hi, if_true, Bool.false_eq_true, if_false, irqVector, Bool.not_false,
      Bool.and_self]
  case none => exact boundaryEvent_eq_none.mpr ⟨hr, hn, hq⟩
  case step => simp only [step, ht]

/-- Settles O36. -/
theorem irqIsServedAtTheBoundary : Obligations.IrqIsServedAtTheBoundary := by
  intro s hr hn hq
  obtain ⟨-, -, hirq, hnone, hstep⟩ := boundaryPriority s
  refine ⟨fun hi => ⟨_, State.pushTrap_eq s s.pc _, stores_pushTrap s s.pc _, ?_⟩, fun hi => hnone hr hn (.inr hi)⟩
  rw [hstep _ (hirq hr hn hq hi)]
  exact congrArg Host.Outcome.next (s.enterInterrupt_vector irqVector_add_one)

/-- Settles O37. -/
theorem nmiIsLatchedOnItsEdgeAndServedOnce : Obligations.NmiIsLatchedOnItsEdgeAndServedOnce := by
  refine ⟨fun _ _ _ _ => ⟨rfl, rfl⟩, fun s hr hn => ?_⟩
  obtain ⟨-, hnmi, -, -, hstep⟩ := boundaryPriority s
  refine ⟨_, State.pushTrap_eq s s.pc _, stores_pushTrap s s.pc _, ?_⟩
  rw [hstep _ (hnmi hr hn)]
  exact congrArg Host.Outcome.next (s.enterInterrupt_vector_of_latched nmiVector_add_one)

/-- Settles O38. -/
theorem resetIsServedFirst : Obligations.ResetIsServedFirst := by
  intro s hr
  obtain ⟨hreset, -, -, -, hstep⟩ := boundaryPriority s
  rw [hstep _ (hreset hr), State.resetSequence_eq, State.enterVector_eq s resetVector_add_one]
  rfl

/-- Settles O40. -/
theorem resetStateIsAsTheSpecSays : Obligations.ResetStateIsAsTheSpecSays := by
  refine ⟨rfl, ?pc, rfl, rfl, rfl, rfl⟩
  case pc => decide

/-! ### Returning (R184, R217, R243) -/

/-- Settles O33: RTS pulls the two bytes that JSR stored, which are JSR's own last address. -/
theorem rtsReturnsAfterTheCall : Obligations.RtsReturnsAfterTheCall := by
  intro s t u w h0 h1 hexec hparams hsp hhigh hlow
  obtain ⟨-, -, t', ht', heq, hstores⟩ := jsrPushesReturnAddressMinusOne s w
  obtain rfl : t' = t := Host.Outcome.next.inj (ht'.symm.trans hexec)
  obtain ⟨hread0, hread1⟩ := hstores.read_returnBytes h0 h1
  have hsp' : u.sp = s.sp - 2 := by rw [hsp, heq]
  have hkind : ∀ a, u.kindAt a = s.kindAt a := State.kindAt_congr (by rw [hparams, heq])
  have hslot1 : u.sp + 1 = s.sp - 1 := by rw [hsp']; bv_omega
  have hslot2 : u.sp + 2 = s.sp := by rw [hsp']; bv_omega
  have hmem0 : u.kindAt (stackAddr s.sp) ≠ .device := by rw [hkind, h0]; exact nofun
  have hmem1 : u.kindAt (stackAddr (s.sp - 1)) ≠ .device := by rw [hkind, h1]; exact nofun
  have hpc : s.pc + 2 + 1 = s.pc + 3 := by bv_omega
  obtain ⟨-, -, hrts⟩ := rtsPullsReturnAddressAndAddsOne u
  rw [hrts]
  simp only [hslot1, hslot2, State.touch_memory hmem0, State.touch_memory hmem1, State.read_memory hmem0,
    State.read_memory hmem1, hhigh, hlow, hread0, hread1, joinBytes_hi_lo, hpc]

/-- RTI after a trap that pushed this return address and this status, with the saved bytes intact. -/
theorem exec_rti_of_saved {s p t u : State} {ret : Word} {b : Bool} (hlayout : s.params.pLayout.distinct = true)
    (hram : StackIsRam s) (hstores : Stores s p (trapBytes s ret (s.packP b))) (hmem : t.mem = p.mem)
    (hsp : t.sp = s.sp - 3) (hparams : t.params = s.params) (hsaved : SameSavedBytes t u) :
    exec .rti u = .next
      { u with
        sp := s.sp, pc := ret, flagC := s.flagC, flagZ := s.flagZ, flagI := s.flagI, flagD := s.flagD,
        flagV := s.flagV, flagN := s.flagN, flagB := b } := by
  obtain ⟨hparams', hsp', hsaved1, hsaved2, hsaved3⟩ := hsaved
  obtain ⟨hhigh, hlow, hstatus⟩ := hstores.read_trapBytes hram
  have hslot1 : t.sp + 1 = s.sp - 2 := by rw [hsp]; bv_omega
  have hslot2 : t.sp + 2 = s.sp - 1 := by rw [hsp]; bv_omega
  have hslot3 : t.sp + 3 = s.sp := by rw [hsp]; bv_omega
  rw [hslot1, hmem, hstatus] at hsaved1
  rw [hslot2, hmem, hlow] at hsaved2
  rw [hslot3, hmem, hhigh] at hsaved3
  have hparamsU : u.params = s.params := hparams'.trans hparams
  have hkind : ∀ {a}, s.kindAt a = .ram → u.kindAt a ≠ .device := fun ha => by
    rw [State.kindAt_congr hparamsU, ha]
    exact nofun
  obtain ⟨h0, h1, h2⟩ := hram
  obtain ⟨hN, hV, hB, hD, hI, hZ, hC⟩ := State.packP_flags hlayout b
  obtain ⟨-, -, hrti⟩ := rtiRestoresFlagsAndProgramCounter u
  rw [hrti]
  simp only [hsp', hslot1, hslot2, hslot3, State.touch_memory (hkind h0), State.touch_memory (hkind h1),
    State.touch_memory (hkind h2), State.read_memory (hkind h0), State.read_memory (hkind h1),
    State.read_memory (hkind h2), hsaved1, hsaved2, hsaved3, hparamsU, hN, hV, hB, hD, hI, hZ, hC, joinBytes_hi_lo]

/-- Settles O34: the status BRK pushes holds B, or 1 under BRK_PUSHED_B = ONE. -/
theorem rtiReturnsAfterBrk : Obligations.RtiReturnsAfterBrk := by
  intro s t u hlayout hram hexec hsaved
  obtain ⟨-, -, p, hp, hstores, ht⟩ := brkTakesTheTrap s
  obtain rfl := Host.Outcome.next.inj (ht.symm.trans hexec)
  have hB : (match s.params.brkPushedB with | .live => s.flagB | .one => true) =
      (s.flagB || decide (s.params.brkPushedB = .one)) := by
    cases s.params.brkPushedB <;> simp
  rw [← hB]
  exact exec_rti_of_saved hlayout hram hstores rfl (by rw [hp]) (by rw [hp]) hsaved

/-- Settles O35: the entry pushes PC and a status with a B bit of 0, while I was still clear. -/
theorem interruptEntryAndReturnRestoreTheProgram : Obligations.InterruptEntryAndReturnRestoreTheProgram := by
  intro s t u hlayout hram hr hn hq hi hstep hsaved
  obtain ⟨hserved, -⟩ := irqIsServedAtTheBoundary s hr hn hq
  obtain ⟨p, hp, hstores, ht⟩ := hserved hi
  obtain rfl := Host.Outcome.next.inj (ht.symm.trans hstep)
  have hrti := exec_rti_of_saved hlayout hram hstores rfl (by rw [hp]) (by rw [hp]) hsaved
  rw [hi] at hrti
  exact hrti

end Sys2Proof.Machine
end

section
/-! PROOFS. The canonical form of memory (`20_memory.md` R40, `10_state.md` R34): O41 and O42. -/

namespace Sys2Proof.Machine

/-! ### Equal contents are equal data -/

/-- Below the bound of a canonical memory nothing is listed. -/
theorem Memory.read_of_lt {low : Nat} {m : Memory} (h : Memory.wfFrom low m = true) {a : Word} (ha : a.toNat < low) :
    m.read a = Memory.unlisted := by
  induction m generalizing low with
  | nil => rfl
  | cons c m ih =>
    obtain ⟨hlow, -, -, hm⟩ := Memory.wfFrom_cons.mp h
    rw [Memory.read_cons, if_neg (by omega)]
    exact ih hm (by omega)

/-- A memory that reads as one whose first cell is `c` lists something at or below `c`: it cannot be canonical from the
next address upwards. -/
theorem Memory.not_wfFrom_of_read_eq {low : Nat} {c : Host.Cell} {m n : Memory}
    (h : Memory.wfFrom low (c :: m) = true) (hread : ∀ a : Word, Memory.read (c :: m) a = n.read a) :
    ¬ Memory.wfFrom (c.1 + 1) n = true := by
  intro hn
  obtain ⟨-, hlt, hlisted, -⟩ := Memory.wfFrom_cons.mp h
  have hc : (BitVec.ofNat 16 c.1).toNat = c.1 := Nat.mod_eq_of_lt hlt
  have hat := hread (BitVec.ofNat 16 c.1)
  rw [Memory.read_cons, if_pos hc.symm, Memory.read_of_lt hn (by omega)] at hat
  exact hlisted hat

/-- The same, for the first cells of both. -/
theorem Memory.head_le_of_read_eq {low : Nat} {c d : Host.Cell} {m n : Memory}
    (h : Memory.wfFrom low (c :: m) = true) (h' : Memory.wfFrom low (d :: n) = true)
    (hread : ∀ a : Word, Memory.read (c :: m) a = Memory.read (d :: n) a) : d.1 ≤ c.1 := by
  by_contra hlt
  obtain ⟨-, hd, hlisted, hn⟩ := Memory.wfFrom_cons.mp h'
  exact Memory.not_wfFrom_of_read_eq h hread (Memory.wfFrom_cons.mpr ⟨by omega, hd, hlisted, hn⟩)

theorem Memory.eq_of_read_eq {low : Nat} {m n : Memory} (hm : Memory.wfFrom low m = true)
    (hn : Memory.wfFrom low n = true) (hread : ∀ a : Word, m.read a = n.read a) : m = n := by
  induction m generalizing low n with
  | nil =>
    cases n with
    | nil => rfl
    | cons d n => exact absurd rfl (Memory.not_wfFrom_of_read_eq hn fun a => (hread a).symm)
  | cons c m ih =>
    cases n with
    | nil => exact absurd rfl (Memory.not_wfFrom_of_read_eq hm hread)
    | cons d n =>
      have hcd : c.1 = d.1 :=
        Nat.le_antisymm (Memory.head_le_of_read_eq hn hm fun a => (hread a).symm) (Memory.head_le_of_read_eq hm hn hread)
      obtain ⟨-, hlt, -, hm'⟩ := Memory.wfFrom_cons.mp hm
      obtain ⟨-, -, -, hn'⟩ := Memory.wfFrom_cons.mp hn
      have hat : (BitVec.ofNat 16 c.1).toNat = c.1 := Nat.mod_eq_of_lt hlt
      have hbyte : c.2 = d.2 := by
        have h := hread (BitVec.ofNat 16 c.1)
        rwa [Memory.read_cons, Memory.read_cons, if_pos hat.symm, if_pos (hcd ▸ hat.symm)] at h
      have htail : ∀ a : Word, Memory.read m a = Memory.read n a := by
        intro a
        by_cases ha : c.1 = a.toNat
        · rw [Memory.read_of_lt hm' (by omega), Memory.read_of_lt hn' (by omega)]
        · have h := hread a
          rwa [Memory.read_cons, Memory.read_cons, if_neg ha, if_neg (hcd ▸ ha)] at h
      rw [Prod.ext hcd hbyte, ih hm' (hcd ▸ hn') htail]

/-- Settles O42. -/
theorem canonicalMemoriesAreDeterminedByReads : Obligations.CanonicalMemoriesAreDeterminedByReads :=
  fun _ _ hm hn hread => Memory.eq_of_read_eq hm hn hread

/-! ### Every content is some canonical memory's -/

/-- Writing the bytes of the first `k` addresses one after the other, to a memory with nothing listed. -/
theorem Memory.exists_wf_read (f : Word → Byte) (k : Nat) (hk : k ≤ 65536) :
    ∃ m : Memory, m.wf = true ∧ ∀ a : Word, m.read a = if a.toNat < k then f a else Memory.unlisted := by
  induction k with
  | zero => exact ⟨Memory.blank, Memory.wf_blank, fun _ => rfl⟩
  | succ k ih =>
    obtain ⟨m, hm, hread⟩ := ih (by omega)
    refine ⟨m.write (BitVec.ofNat 16 k) (f (BitVec.ofNat 16 k)), Memory.write_wf _ _ hm, fun a => ?_⟩
    have hat : (BitVec.ofNat 16 k).toNat = k := Nat.mod_eq_of_lt (by omega)
    rw [Memory.read_write, hread]
    by_cases ha : a = BitVec.ofNat 16 k
    · rw [if_pos ha, if_pos (by rw [ha, hat]; omega), ha]
    · have hne : a.toNat ≠ k := fun h => ha (BitVec.eq_of_toNat_eq (h.trans hat.symm))
      rw [if_neg ha]
      exact if_congr (by omega) rfl rfl

/-- Settles O41, at the last address. -/
theorem everyLaunchMemoryIsRepresentable : Obligations.EveryLaunchMemoryIsRepresentable := by
  intro f
  obtain ⟨m, hm, hread⟩ := Memory.exists_wf_read f 65536 le_rfl
  exact ⟨m, hm, fun a => (hread a).trans (if_pos a.isLt)⟩

end Sys2Proof.Machine
end

section
/-! PROOFS. The step and the end of a run (`00_scope.md` section 5.3, `20_memory.md` section 7,
`70_reset_and_hazards.md` section 5): O43, O56 and O57. -/

namespace Sys2Proof.Machine

/-! ### The fetch, form by form (R55, R70) -/

theorem fetch_f1 {s : State} {i : Instr} (h : lookupOpcode (s.read s.pc) = some (.f1 i)) :
    fetch s = .ok (i, s.touch s.pc) := by
  simp only [fetch, State.load_fst, State.load_snd, h]

theorem fetch_f2 {s : State} {k : Byte → Instr} (h : lookupOpcode (s.read s.pc) = some (.f2 k)) :
    fetch s = .ok (k ((s.touch s.pc).read (s.pc + 1)), (s.touch s.pc).touch (s.pc + 1)) := by
  simp only [fetch, State.load_fst, State.load_snd, h]

theorem fetch_f3 {s : State} {k : Word → Instr} (h : lookupOpcode (s.read s.pc) = some (.f3 k)) :
    fetch s =
      .ok (k (joinBytes (((s.touch s.pc).touch (s.pc + 1)).read (s.pc + 2)) ((s.touch s.pc).read (s.pc + 1))),
        ((s.touch s.pc).touch (s.pc + 1)).touch (s.pc + 2)) := by
  simp only [fetch, State.load_fst, State.load_snd, h]

/-- Where the bytes loaded in order from PC are an instruction's encoding, the fetch gives the instruction and the state
after these loads. -/
theorem fetch_of_loadBytes {i : Instr} {s u : State} (h : loadBytes i.length s.pc s = (encode i, u)) :
    fetch s = .ok (i, u) := by
  obtain ⟨r, hrow⟩ := i.exists_row
  have hlookup := lookupOpcode_of_rowIs hrow
  obtain ⟨-, hop, hencodes, hbuild, -⟩ := hrow
  obtain ⟨hlength, -⟩ := i.encodedLength
  rw [hop] at hencodes
  have hpc : s.pc + 1 + 1 = s.pc + 2 := by bv_omega
  cases hform : r.form with
  | f1 j =>
    rw [hform] at hlookup hencodes hbuild
    obtain rfl : j = i := hbuild
    have hbytes : encode j = [j.opcode] := hencodes
    rw [← hlength, hbytes] at h
    simp only [List.length_cons, List.length_nil, loadBytes, Prod.mk.injEq, List.cons.injEq, and_true] at h
    obtain ⟨hread, rfl⟩ := h
    exact fetch_f1 (hread ▸ hlookup)
  | f2 k =>
    rw [hform] at hlookup hencodes hbuild
    have hbytes : encode i = [i.opcode, BitVec.ofNat 8 i.operand] := by
      rw [← hencodes (BitVec.ofNat 8 i.operand)]
      exact congrArg encode hbuild.symm
    rw [← hlength, hbytes] at h
    simp only [List.length_cons, List.length_nil, loadBytes, Prod.mk.injEq, List.cons.injEq, and_true] at h
    obtain ⟨⟨hread, hread1⟩, rfl⟩ := h
    rw [fetch_f2 (hread ▸ hlookup), hread1]
    exact congrArg (fun j => Except.ok (j, (s.touch s.pc).touch (s.pc + 1))) hbuild
  | f3 k =>
    rw [hform] at hlookup hencodes hbuild
    have hbytes : encode i =
        [i.opcode, loByte (BitVec.ofNat 16 i.operand), hiByte (BitVec.ofNat 16 i.operand)] := by
      rw [← hencodes (BitVec.ofNat 16 i.operand)]
      exact congrArg encode hbuild.symm
    rw [← hlength, hbytes] at h
    simp only [List.length_cons, List.length_nil, loadBytes, hpc, Prod.mk.injEq, List.cons.injEq, and_true] at h
    obtain ⟨⟨hread, hread1, hread2⟩, rfl⟩ := h
    rw [fetch_f3 (hread ▸ hlookup), hread1, hread2, joinBytes_hi_lo]
    exact congrArg (fun j => Except.ok (j, ((s.touch s.pc).touch (s.pc + 1)).touch (s.pc + 2))) hbuild

/-- Loads of code that no device is behind give what memory holds and change nothing. -/
theorem loadBytes_of_code {s : State} (h : CodeIsMemory s) {n : Nat} (hn : n ≤ 3) :
    loadBytes n s.pc s =
      ([s.mem.read s.pc, s.mem.read (s.pc + 1), s.mem.read (s.pc + 2)].take n, s) := by
  obtain ⟨h0, h1, h2⟩ := h
  have hpc : s.pc + 1 + 1 = s.pc + 2 := by bv_omega
  match n, hn with
  | 0, _ => rfl
  | 1, _ => simp only [loadBytes, State.touch_memory h0, State.read_memory h0, List.take]
  | 2, _ =>
    simp only [loadBytes, State.touch_memory h0, State.read_memory h0, State.touch_memory h1, State.read_memory h1,
      List.take]
  | 3, _ =>
    simp only [loadBytes, hpc, State.touch_memory h0, State.read_memory h0, State.touch_memory h1,
      State.read_memory h1, State.touch_memory h2, State.read_memory h2, List.take]

/-- Code in memory that begins with an instruction's encoding is fetched as this instruction, without an event. -/
theorem fetch_of_code {i : Instr} {s : State} {rest : List Byte} (h : CodeIsMemory s)
    (hbytes : [s.mem.read s.pc, s.mem.read (s.pc + 1), s.mem.read (s.pc + 2)] = encode i ++ rest) :
    fetch s = .ok (i, s) := by
  obtain ⟨hlength, -, hle, -⟩ := i.encodedLength
  refine fetch_of_loadBytes ?_
  rw [loadBytes_of_code h hle, hbytes, ← hlength, List.take_left]

/-! ### The step (R9) -/

/-- Where no line is served, the step is the fetched instruction's meaning with its cycles charged. -/
theorem step_of_fetch {i : Instr} {s u : State} (hb : NoBoundaryEvent s) (h : fetch s = .ok (i, u)) :
    step s = chargeCycles i u (exec i u) := by
  simp only [step, boundaryEvent_eq_none.mpr hb, h]

/-- Settles O43. -/
theorem stepRunsTheDecodedInstruction : Obligations.StepRunsTheDecodedInstruction := by
  intro s hb
  have hstep : ∀ (i : Instr) (u : State), fetch s = .ok (i, u) →
      (∀ t, exec i u = .next t → step s = .next { t with cycles := t.cycles + instrCycles i u }) ∧
        ∀ r, exec i u = .refused r → step s = .refused r := fun i u hfetch =>
    ⟨fun t ht => by rw [step_of_fetch hb hfetch, ht, chargeCycles],
      fun r hr => by rw [step_of_fetch hb hfetch, hr, chargeCycles]⟩
  refine ⟨fun i rest hcode hdecode _ => ?decoded, fun i u hload => ?loaded, fun hlookup => ?unlisted⟩
  case decoded => exact hstep i s (fetch_of_code hcode (eq_encode_append_of_decode hdecode))
  case loaded => exact hstep i u (fetch_of_loadBytes hload)
  case unlisted => exact step_of_unlisted hb hlookup

/-! ### The end of a run (R295) -/

theorem fetch_of_atSelfJump {s : State} (h : AtSelfJump s) : fetch s = .ok (.jmpAbs s.pc, s) := by
  obtain ⟨hcode, hop, hlow, hhigh⟩ := h
  refine fetch_of_code (rest := []) hcode ?_
  rw [hop, hlow, hhigh]
  rfl

theorem instrAtPc_of_fetch {i : Instr} {s : State} (h : fetch s = .ok (i, s)) : s.instrAtPc = some i := by
  simp only [State.instrAtPc, h, if_true]

/-- A convention of HALT_CONDITION that holds ends a run at once, whatever the number of steps allowed. -/
theorem runUntilHalt_of_haltedBy {s : State} {c : HaltCondition} (hc : c ∈ s.params.haltConditions)
    (h : s.haltedBy c = true) (n : Nat) : runUntilHalt n s = .ended s := by
  have hhalted : s.halted = true := List.any_eq_true.mpr ⟨c, hc, h⟩
  cases n with
  | zero => rw [runUntilHalt, if_pos hhalted]
  | succ n => rw [runUntilHalt, if_pos hhalted]

/-- Without a convention no run ends, since no step changes the parameters. -/
theorem runUntilHalt_ne_ended (n : Nat) {s : State} (h : s.params.haltConditions = []) (t : State) :
    runUntilHalt n s ≠ .ended t := by
  have hhalted : ¬ s.halted = true := by simp [State.halted, h]
  induction n generalizing s with
  | zero =>
    rw [runUntilHalt, if_neg hhalted]
    exact nofun
  | succ n ih =>
    rw [runUntilHalt, if_neg hhalted]
    split
    · next u hu =>
      have hu' : u.params.haltConditions = [] := by rw [(step_respectsMap hu).params, h]
      exact ih hu' (by simp [State.halted, hu'])
    · next f _ => cases f
    · exact nofun

/-- Settles O56. -/
theorem selfJumpIsAFixedPoint : Obligations.SelfJumpIsAFixedPoint := by
  intro s
  refine ⟨fun hb hjump => ?step, fun hjump hc => ?selfJump, fun hc => ?pcAt, fun hb hk hop hc => ?brk,
    fun hc n t => runUntilHalt_ne_ended n hc t⟩
  case step => exact step_of_fetch hb (fetch_of_atSelfJump hjump)
  case selfJump =>
    refine runUntilHalt_of_haltedBy hc ?_
    rw [State.haltedBy, instrAtPc_of_fetch (fetch_of_atSelfJump hjump), beq_self_eq_true]
  case pcAt => exact runUntilHalt_of_haltedBy hc (beq_self_eq_true s.pc)
  case brk =>
    have hload : loadBytes (Instr.brk).length s.pc s = (encode .brk, s) := by
      show loadBytes 1 s.pc s = ([0x00], s)
      rw [loadBytes, loadBytes, State.read_memory hk, State.touch_memory hk, hop]
    refine runUntilHalt_of_haltedBy hc ?_
    rw [State.haltedBy, boundaryEvent_eq_none.mpr hb, instrAtPc_of_fetch (fetch_of_loadBytes hload)]
    rfl

/-! ### Fetch coherence (R58) -/

/-- Settles O57: the byte stored is the one the next fetch reads, since both go to the same memory. -/
theorem storedBytesAreFetchedNext : Obligations.StoredBytesAreFetchedNext := by
  intro s hram
  have hk : State.kindAt ((s.store (s.pc + 3) s.a).advance 3) (s.pc + 3) ≠ .device := by
    show s.kindAt (s.pc + 3) ≠ .device
    rw [hram]
    exact nofun
  have hread : State.read ((s.store (s.pc + 3) s.a).advance 3) (s.pc + 3) = s.a := by
    rw [State.read_memory hk, State.advance_mem, State.mem_read_store, if_pos ⟨rfl, hram⟩]
  refine ⟨(s.store (s.pc + 3) s.a).advance 3, rfl, rfl, hread, fun i hlookup => ?_⟩
  have hfetch := fetch_f1 (s := (s.store (s.pc + 3) s.a).advance 3) (hread.symm ▸ hlookup)
  exact hfetch.trans (congrArg (fun u => Except.ok (i, u)) (State.touch_memory hk))

end Sys2Proof.Machine
end
